-- ==== Sys2Proof/Word.lean ====
section
/-! DEFINITION. The word types of the block: bytes, the 16-bit telemetry word, durations and
telemetry values (spec/00_scope.md R8, R9, R12). -/

namespace Sys2Proof

/-- A byte, 0 to 255 (R9). -/
abbrev Byte := BitVec 8

/-- A 16-bit value, bit 0 the least significant (R9). -/
abbrev U16 := BitVec 16

/-- A duration: a non-negative time value in the source's abstract time units (R7, R76).
DESIGN CHOICE (log 22): a rational, as every other quantity of the block. -/
abbrev Duration := {d : Rat // 0 ≤ d}

/-- R12: either `Val(q)` or the marker `Undef`, which is not `Val(0)` and not a NaN. -/
inductive TelemetryValue where
  | val (q : Rat)
  | undef
  deriving DecidableEq, Repr

/-- R11: `zeros(n)` is n bytes of 0x00. -/
def zeros (n : Nat) : List Byte := List.replicate n 0#8

end Sys2Proof
end

