-- ==== Sys2Proof/Config.lean ====
section
/-! DEFINITION. The configuration record of spec/00_scope.md R7 (the block's control registers,
spec/10_state.md R33), its legality, its defaults, and the free values of the model. -/

namespace Sys2Proof

/-- R7, R33: the parameters of the block. Read-only: no operation writes one. -/
structure Cfg where
  /-- `FRAME_LEN`: length in bytes of every CommandFrame. -/
  frameLen : Nat
  /-- `RESP_MIN_LEN`: least collected byte count for a defined telemetry value. -/
  respMinLen : Nat
  /-- `RESP_LO_OFF`: offset of the low byte of the encoded value. -/
  respLoOff : Nat
  /-- `RESP_HI_OFF`: offset of the high byte. -/
  respHiOff : Nat
  /-- `REPORT_ID`: the byte at frame offset 0 of the block's own commands (OPEN, D5). -/
  reportId : Byte
  /-- `T_WIN_READ`: window duration after a READ_PARAM send (OPEN, D6). -/
  tWinRead : Duration
  /-- `T_WIN_CMD`: window duration after a mode or RGB send (OPEN, D6). -/
  tWinCmd : Duration
  /-- `POLL_INTERVAL`: the inter-cycle sleep. -/
  pollInterval : Duration
  /-- `SANITY_FLOOR`: a temperature below it skips the cycle. -/
  sanityFloor : Rat
  /-- `MIN_TEMP`: activation threshold, low end of the interpolation. -/
  minTemp : Rat
  /-- `PASSIVE_DELTA`: hysteresis width. -/
  passiveDelta : Rat
  /-- `MAX_TEMP`: high end of the interpolation. -/
  maxTemp : Rat
  /-- `MIN_FAN_SPEED_PERCENT`. -/
  minFan : Rat
  /-- `MAX_FAN_SPEED_PERCENT`. -/
  maxFan : Rat
  /-- `PID_TEMP`: parameter id read for temperature. -/
  pidTemp : Byte
  /-- `PID_RPM`: parameter id read for fan RPM. -/
  pidRpm : Byte
  /-- `VID`, given to the transport at OPEN. -/
  vid : U16
  /-- `PID_USB`, given to the transport at OPEN. -/
  pidUsb : U16
  /-- `RX_CAP`: capacity of the response buffer; none is unbounded (D14). -/
  rxCap : Option Nat
  deriving DecidableEq, Repr

/-- The legality constraints of R7. The first is the rule's own reading of
`MIN_TEMP - PASSIVE_DELTA < MIN_TEMP`, namely `PASSIVE_DELTA > 0`. The durations are non-negative
by their type. -/
abbrev Cfg.Legal (c : Cfg) : Prop :=
  0 < c.passiveDelta ∧ c.minTemp < c.maxTemp ∧
  0 ≤ c.minFan ∧ c.minFan ≤ c.maxFan ∧ c.maxFan ≤ 100 ∧
  c.respHiOff < c.respMinLen ∧ c.respLoOff < c.respMinLen ∧ 1 ≤ c.frameLen

/-- R7: the source's values, over the three OPEN parameters. -/
def Cfg.withDefaults (reportId : Byte) (tWinRead tWinCmd : Duration) : Cfg where
  frameLen := 65
  respMinLen := 5
  respLoOff := 3
  respHiOff := 4
  reportId := reportId
  tWinRead := tWinRead
  tWinCmd := tWinCmd
  pollInterval := ⟨15, by decide⟩
  sanityFloor := 20
  minTemp := 37
  passiveDelta := 3
  maxTemp := 59
  minFan := 20
  maxFan := 50
  pidTemp := 0x3A#8
  pidRpm := 0x3B#8
  vid := 0x264A#16
  pidUsb := 0x2329#16
  rxCap := none

namespace Config

/-- Free value: `REPORT_ID`, OPEN in the spec (D5, I1). Log 2. -/
opaque reportId : Byte

/-- Free value: `T_WIN_READ`, OPEN in the spec (D6, I2). Log 2. -/
opaque tWinRead : Duration

/-- Free value: `T_WIN_CMD`, OPEN in the spec (D6, I2). Log 2. -/
opaque tWinCmd : Duration

/-- Free value: whether the transport's enumeration finds the device of this vendor and product id
(R97, I6), as its n-th answer, where the state's data gives none. Log 8. -/
opaque freeFound (vid pidUsb : U16) (n : Nat) : Bool

/-- Free value: whether the transport has an output channel (R99, I7), as its n-th answer, where
the state's data gives none. Log 8. -/
opaque freeChannel (n : Nat) : Bool

/-- The record the block of `State.reset` is instantiated with: the defaults of R7 over the
three free OPEN parameters (R33). -/
def record : Cfg := Cfg.withDefaults reportId tWinRead tWinCmd

end Config

end Sys2Proof
end

