-- ==== Sys2Proof/Syntax.lean ====
section
/-! DEFINITION. What is offered to the block (spec/30_encoding.md R74 to R76) and the
instructions it stands for: one constructor of Instr per row of spec/opcode_table.json. -/

namespace Sys2Proof

/-- R67: FanMode, in the source's order. -/
inductive FanMode where
  | silent
  | performance
  | passive
  | manual
  deriving DecidableEq, Repr

/-- A numeric operand as a host may hold it: an exact rational, or a NaN or infinity of a
binary64 host, which is refused (R76, D26). -/
inductive HostNum where
  | finite (q : Rat)
  | nonFinite
  deriving DecidableEq, Repr

/-- One operand at the host operation port (R76): typed, passed by value. The out-of-range and
ill-typed shapes of R72 can be written too, so that their refusal is part of the model. -/
inductive Operand where
  | byte (n : Nat)
  | num (x : HostNum)
  | payload (bytes : List Nat)
  | mode (m : Option FanMode)
  | tel (v : TelemetryValue)
  deriving DecidableEq, Repr

/-- What HOST presents: an OPSEL byte with operands (format HOSTOP, R74), or the payload bytes of
a wire command (formats P-RD, P-FM, P-RGB, R66 to R68; log 14). -/
inductive Offer where
  | hostop (opsel : Byte) (operands : List Operand)
  | wire (payload : List Byte)
  deriving DecidableEq, Repr

/-- The 14 host operations of R75, by name: the identity a DONE event records (R31). -/
inductive Opcode where
  | decode16
  | encpct
  | temp2pct
  | buildframe
  | openTransport
  | closeTransport
  | send
  | readresp
  | getTelemetry
  | setMode
  | rgboff
  | aggPower
  | loopStart
  | loopStop
  deriving DecidableEq, Repr

/-- One constructor per row of spec/opcode_table.json: 14 host operations (R75) and 3 wire
commands (R109). -/
inductive Instr where
  | decode16 (lo hi : Byte)
  | encpct (p : Rat)
  | temp2pct (t : Rat)
  | buildframe (rid : Byte) (payload : List Byte)
  | openTransport
  | closeTransport
  | send (rid : Byte) (payload : List Byte)
  | readresp (d : Duration)
  | getTelemetry (b : Byte)
  | setMode (mode : FanMode) (speed : Option Rat)
  | rgboff
  | aggPower (v12 v5 v33 i12 i5 i33 : TelemetryValue)
  | loopStart
  | loopStop
  | cmdReadParam (b : Byte)
  | cmdSetFanMode (param1 param2 : Byte)
  | cmdRgbOff
  deriving DecidableEq, Repr

/-- R79: the pseudo-operations. They have no OPSEL of their own. -/
inductive Pseudo where
  | readTemp
  | readRpm
  | setSilent
  | setPerformance
  | setPassive
  | setManual (p : Rat)
  deriving DecidableEq, Repr

end Sys2Proof
end

