-- ==== Sys2Proof/WellFormed.lean ====
section
/-! DEFINITION. Which instructions are well formed: the operand-shape conditions of
spec/30_encoding.md R72 and R76 that the types of Instr do not already carry. -/

namespace Sys2Proof

/-- R76: the speed of SET_MODE is "present exactly when `mode = manual`"; R72: "a manual SET_MODE
without a speed" is refused. Bytes, durations and rationals are in range by their types. -/
def Instr.wellFormed : Instr → Bool
  | .setMode mode speed => speed.isSome == decide (mode = .manual)
  | .decode16 _ _ => true
  | .encpct _ => true
  | .temp2pct _ => true
  | .buildframe _ _ => true
  | .openTransport => true
  | .closeTransport => true
  | .send _ _ => true
  | .readresp _ => true
  | .getTelemetry _ => true
  | .rgboff => true
  | .aggPower _ _ _ _ _ _ => true
  | .loopStart => true
  | .loopStop => true
  | .cmdReadParam _ => true
  | .cmdSetFanMode _ _ => true
  | .cmdRgbOff => true

end Sys2Proof
end

