-- ==== Sys2Proof/Decode.lean ====
section
/-! DEFINITION. The decoder of what HOST presents, total and rejecting by name, and the encoder
written from the same tables (spec/30_encoding.md R66 to R72, R75, R76; spec/opcode_table.json). -/

namespace Sys2Proof

/-- Why an offer is no instruction (R72, I13 to I15). -/
inductive DecodeError where
  /-- OPSEL 0x00 or 0x0F to 0xFF (R72 item 1). -/
  | reservedOpsel
  /-- Not the operands the OPSEL takes (R76). -/
  | operandCount
  /-- An operand of the wrong type (R72 item 2). -/
  | operandType
  /-- A byte outside 0..255 (R72 item 2). -/
  | byteRange
  /-- A NaN or an infinity (R76, D26). -/
  | nonFinite
  /-- A negative duration (R76). -/
  | negativeDuration
  /-- A FanMode outside the four modes (R72 item 2). -/
  | unknownMode
  /-- A manual SET_MODE without a speed (R72 item 2). -/
  | speedMissing
  /-- A speed with a non-manual SET_MODE (R76, R116). -/
  | speedNotTaken
  /-- A wire payload that R70 gives no command. -/
  | undefinedCommand
  deriving DecidableEq, Repr

/-! ### The OPSEL map, R75 -/

def Opcode.all : List Opcode :=
  [.decode16, .encpct, .temp2pct, .buildframe, .openTransport, .closeTransport, .send,
   .readresp, .getTelemetry, .setMode, .rgboff, .aggPower, .loopStart, .loopStop]

/-- R75. -/
def Opcode.opsel : Opcode → Byte
  | .decode16 => 0x01#8
  | .encpct => 0x02#8
  | .temp2pct => 0x03#8
  | .buildframe => 0x04#8
  | .openTransport => 0x05#8
  | .closeTransport => 0x06#8
  | .send => 0x07#8
  | .readresp => 0x08#8
  | .getTelemetry => 0x09#8
  | .setMode => 0x0A#8
  | .rgboff => 0x0B#8
  | .aggPower => 0x0C#8
  | .loopStart => 0x0D#8
  | .loopStop => 0x0E#8

/-- The row of R75 with this selector; none for the reserved values. -/
def opcodeOf (opsel : Byte) : Option Opcode := Opcode.all.find? (fun o => o.opsel == opsel)

/-! ### Reading one operand, R72 and R76 -/

def Operand.asByte : Operand → Except DecodeError Byte
  | .byte n => if n < 256 then .ok (BitVec.ofNat 8 n) else .error .byteRange
  | .num _ | .payload _ | .mode _ | .tel _ => .error .operandType

def Operand.asRat : Operand → Except DecodeError Rat
  | .num (.finite q) => .ok q
  | .num .nonFinite => .error .nonFinite
  | .byte _ | .payload _ | .mode _ | .tel _ => .error .operandType

def Operand.asDuration : Operand → Except DecodeError Duration
  | .num (.finite q) => if h : 0 ≤ q then .ok ⟨q, h⟩ else .error .negativeDuration
  | .num .nonFinite => .error .nonFinite
  | .byte _ | .payload _ | .mode _ | .tel _ => .error .operandType

def Operand.asPayload : Operand → Except DecodeError (List Byte)
  | .payload bytes =>
    if bytes.all (fun n => decide (n < 256)) then .ok (bytes.map (BitVec.ofNat 8))
    else .error .byteRange
  | .byte _ | .num _ | .mode _ | .tel _ => .error .operandType

def Operand.asMode : Operand → Except DecodeError FanMode
  | .mode (some m) => .ok m
  | .mode none => .error .unknownMode
  | .byte _ | .num _ | .payload _ | .tel _ => .error .operandType

def Operand.asTel : Operand → Except DecodeError TelemetryValue
  | .tel v => .ok v
  | .num .nonFinite => .error .nonFinite
  | .num (.finite _) | .byte _ | .payload _ | .mode _ => .error .operandType

/-! ### Decoding -/

/-- SET_MODE: the speed is present exactly when the mode is manual (R76). -/
def decodeSetMode (m : FanMode) (speed : Option Operand) : Except DecodeError Instr :=
  match decide (m = .manual), speed with
  | true, some x => x.asRat.map fun q => .setMode m (some q)
  | true, none => .error .speedMissing
  | false, none => .ok (.setMode m none)
  | false, some _ => .error .speedNotTaken

/-- The operands each OPSEL takes, R76. -/
def decodeOperands (op : Opcode) (operands : List Operand) : Except DecodeError Instr :=
  match op, operands with
  | .decode16, [lo, hi] => lo.asByte.bind fun l => hi.asByte.map fun h => .decode16 l h
  | .encpct, [p] => p.asRat.map .encpct
  | .temp2pct, [t] => t.asRat.map .temp2pct
  | .buildframe, [r, p] => r.asByte.bind fun rid => p.asPayload.map fun bs => .buildframe rid bs
  | .openTransport, [] => .ok .openTransport
  | .closeTransport, [] => .ok .closeTransport
  | .send, [r, p] => r.asByte.bind fun rid => p.asPayload.map fun bs => .send rid bs
  | .readresp, [d] => d.asDuration.map .readresp
  | .getTelemetry, [b] => b.asByte.map .getTelemetry
  | .setMode, [m] => m.asMode.bind fun mode => decodeSetMode mode none
  | .setMode, [m, x] => m.asMode.bind fun mode => decodeSetMode mode (some x)
  | .rgboff, [] => .ok .rgboff
  | .aggPower, [a, b, c, d, e, f] =>
    a.asTel.bind fun v12 => b.asTel.bind fun v5 => c.asTel.bind fun v33 =>
    d.asTel.bind fun i12 => e.asTel.bind fun i5 => f.asTel.map fun i33 =>
    .aggPower v12 v5 v33 i12 i5 i33
  | .loopStart, [] => .ok .loopStart
  | .loopStop, [] => .ok .loopStop
  | _, _ => .error .operandCount

/-- A host operation: the selector first, then its operands (R72, R74). -/
def decodeHostop (opsel : Byte) (operands : List Operand) : Except DecodeError Instr :=
  match opcodeOf opsel with
  | some op => decodeOperands op operands
  | none => .error .reservedOpsel

/-- Byte i of a payload, 0x00 past its end: a frame cannot tell padding from payload (R70). -/
def payloadAt (p : List Byte) (i : Nat) : Byte := p.getD i 0#8

/-- "All bytes after the payload are 0x00" (R70). -/
def zeroFrom (n : Nat) (p : List Byte) : Bool := (p.drop n).all (fun b => b == 0#8)

/-- R70, the command map and length decoding, on the bytes after the report id. A command followed
by zeros is that command whatever the number of zeros, even where they would not fit a frame
(DESIGN CHOICE, log 33). -/
def decodeWire (p : List Byte) : Except DecodeError Instr :=
  if payloadAt p 0 = 0x31#8 ∧ zeroFrom 2 p then .ok (.cmdReadParam (payloadAt p 1))
  else if payloadAt p 0 = 0x30#8 ∧ payloadAt p 1 = 0x41#8 ∧ zeroFrom 4 p then
    .ok (.cmdSetFanMode (payloadAt p 2) (payloadAt p 3))
  else if payloadAt p 0 = 0x30#8 ∧ payloadAt p 1 = 0x42#8 ∧ payloadAt p 2 = 0x19#8 ∧ zeroFrom 3 p then
    .ok .cmdRgbOff
  else .error .undefinedCommand

/-- R70: a reader of a whole CommandFrame; offset 0 is the report id. -/
def readFrameCommand (frame : List Byte) : Except DecodeError Instr := decodeWire (frame.drop 1)

/-- The decoder, total on every offer. -/
def decode : Offer → Except DecodeError Instr
  | .hostop opsel operands => decodeHostop opsel operands
  | .wire payload => decodeWire payload

/-! ### Encoding -/

def Operand.ofByte (b : Byte) : Operand := .byte b.toNat

def Operand.ofBytes (p : List Byte) : Operand := .payload (p.map BitVec.toNat)

/-- The speed operand of SET_MODE, where there is one. -/
def speedOperands : Option Rat → List Operand
  | none => []
  | some q => [.num (.finite q)]

/-- The encoder: selector and operands by R75 and R76, wire payloads by R109. -/
def encode : Instr → Offer
  | .decode16 lo hi => .hostop Opcode.decode16.opsel [.ofByte lo, .ofByte hi]
  | .encpct p => .hostop Opcode.encpct.opsel [.num (.finite p)]
  | .temp2pct t => .hostop Opcode.temp2pct.opsel [.num (.finite t)]
  | .buildframe rid p => .hostop Opcode.buildframe.opsel [.ofByte rid, .ofBytes p]
  | .openTransport => .hostop Opcode.openTransport.opsel []
  | .closeTransport => .hostop Opcode.closeTransport.opsel []
  | .send rid p => .hostop Opcode.send.opsel [.ofByte rid, .ofBytes p]
  | .readresp d => .hostop Opcode.readresp.opsel [.num (.finite d.val)]
  | .getTelemetry b => .hostop Opcode.getTelemetry.opsel [.ofByte b]
  | .setMode m speed => .hostop Opcode.setMode.opsel (.mode (some m) :: speedOperands speed)
  | .rgboff => .hostop Opcode.rgboff.opsel []
  | .aggPower v12 v5 v33 i12 i5 i33 =>
    .hostop Opcode.aggPower.opsel [.tel v12, .tel v5, .tel v33, .tel i12, .tel i5, .tel i33]
  | .loopStart => .hostop Opcode.loopStart.opsel []
  | .loopStop => .hostop Opcode.loopStop.opsel []
  | .cmdReadParam b => .wire [0x31#8, b]
  | .cmdSetFanMode param1 param2 => .wire [0x30#8, 0x41#8, param1, param2]
  | .cmdRgbOff => .wire [0x30#8, 0x42#8, 0x19#8, 0x00#8, 0x00#8, 0x00#8]

/-- R79: "Each pseudo-operation expands exactly as given". -/
def expandPseudo (c : Cfg) : Pseudo → Instr
  | .readTemp => .getTelemetry c.pidTemp
  | .readRpm => .getTelemetry c.pidRpm
  | .setSilent => .setMode .silent none
  | .setPerformance => .setMode .performance none
  | .setPassive => .setMode .passive none
  | .setManual p => .setMode .manual (some p)

/-! ### The opcode table's own words -/

/-- The operands of an OPSEL, each at the zero of its type (log 13): the byte 0, the rational 0, the
duration 0, the empty payload, the first FanMode with no speed, the telemetry value 0. -/
def zeroOperands : Opcode → List Operand
  | .decode16 => [.byte 0, .byte 0]
  | .encpct => [.num (.finite 0)]
  | .temp2pct => [.num (.finite 0)]
  | .buildframe => [.byte 0, .payload []]
  | .openTransport => []
  | .closeTransport => []
  | .send => [.byte 0, .payload []]
  | .readresp => [.num (.finite 0)]
  | .getTelemetry => [.byte 0]
  | .setMode => [.mode (some .silent)]
  | .rgboff => []
  | .aggPower =>
    [.tel (.val 0), .tel (.val 0), .tel (.val 0), .tel (.val 0), .tel (.val 0), .tel (.val 0)]
  | .loopStart => []
  | .loopStop => []

/-- The n bytes of a word, the most significant first: the table writes a wire command's payload
as one number whose first byte is its highest (log 15). -/
def wordBytes : Nat → Nat → List Byte
  | 0, _ => []
  | n + 1, w => BitVec.ofNat 8 (w >>> (8 * n)) :: wordBytes n w

/-- What HOST presents for a word of spec/opcode_table.json: a one-byte word is an OPSEL with zero
operands, a longer word is a wire payload, padded with zeros to the longest (6 bytes). -/
def tableOffer (nbits w : Nat) : Offer :=
  if nbits ≤ 8 then
    .hostop (BitVec.ofNat 8 w) (((opcodeOf (BitVec.ofNat 8 w)).map zeroOperands).getD [])
  else .wire (wordBytes (nbits / 8) w ++ zeros (6 - nbits / 8))

/-- The instruction the decoder reads from a word of spec/opcode_table.json. -/
def decodeTableWord (nbits w : Nat) : Option Instr := (decode (tableOffer nbits w)).toOption

end Sys2Proof
end

