-- ==== Sys2Proof/Machine/State.lean ====
section
/-! DEFINITION. The state of the block (spec/10_state.md R18: "A model's state type has exactly
these fields"), the configuration record it is instantiated with (R33), the model's own
environment data, the reasons a step stops, and the state after reset
(spec/70_reset_and_hazards.md R163). Plain data throughout. -/

namespace Sys2Proof.Machine

/-- A byte-addressed space: (address, byte) cells, addresses strictly rising, no cell holding what
an unlisted address reads as (Ops.lean). -/
abbrev Memory := List Host.Cell

/-- R19: the sequencer phase, the block's program counter. -/
inductive Phase where
  /-- No loop is running and no host operation is in progress. -/
  | idle
  /-- A host operation is collecting its response window. -/
  | hWait
  /-- About to send the temperature read. -/
  | cRtSend
  /-- Collecting the temperature window. -/
  | cRtWait
  /-- About to send the RPM read. -/
  | cRrSend
  /-- Collecting the RPM window. -/
  | cRrWait
  /-- Applying the sanity filter and the transition rule. -/
  | cDecide
  /-- About to send the set-fan-mode command. -/
  | cModeSend
  /-- Collecting the window after the set-fan-mode send. -/
  | cModeWait
  /-- The inter-cycle sleep. -/
  | cSleep
  /-- A fatal fault has been raised. -/
  | halted
  deriving DecidableEq, Repr

/-- R25: who holds the transport. -/
inductive Owner where
  | none
  | host
  | loop
  deriving DecidableEq, Repr

/-- R26: what the response window follows. -/
inductive RxKind where
  | read
  | cmd
  deriving DecidableEq, Repr

/-- R28, R153: the two logical timers of the one slot. -/
inductive TimerName where
  | win
  | sleep
  deriving DecidableEq, Repr

/-- R32: a host operation waiting for its window; GET_TELEMETRY keeps its parameter id. -/
inductive Pending where
  | readresp
  | getTelemetry (b : Byte)
  | setMode
  | rgboff
  deriving DecidableEq, Repr

/-- R143: the completion statuses (the fatal code is a FaultCode). -/
inductive Status where
  | ok
  | deviceNotFound
  | transportUnavailable
  | decodeUndefined
  | interruptedByUser
  deriving DecidableEq, Repr

/-- R144: "FRAME_ENCODING_ERROR is the only fatal fault". -/
inductive FaultCode where
  | frameEncodingError
  deriving DecidableEq, Repr

/-- R31: why a cycle was skipped. -/
inductive SkipReason where
  | undef
  | belowFloor
  deriving DecidableEq, Repr

/-- R77: the result a DONE event carries. -/
inductive Result where
  | none
  | rational (q : Rat)
  | integer (n : Int)
  | frame (f : List Byte)
  | bytes (bs : List Byte)
  | telemetry (v : TelemetryValue)
  deriving DecidableEq, Repr

/-- R31: the event kinds of the history. -/
inductive Event where
  /-- A frame was accepted by the TX port. -/
  | tx (frame : List Byte)
  /-- A window closed with these bytes. -/
  | win (kind : RxKind) (bytes : List Byte)
  /-- A telemetry read of a parameter id gave a value. -/
  | tel (pid : Byte) (v : TelemetryValue)
  /-- A cycle was skipped. -/
  | skip (reason : SkipReason)
  /-- A cycle step was aborted. -/
  | cycleErr (code : Status)
  /-- A host operation completed. -/
  | done (op : Opcode) (code : Status) (result : Result)
  /-- A fatal fault was raised. -/
  | fault (code : FaultCode)
  /-- The loop stopped after INTR. -/
  | stopped
  deriving DecidableEq, Repr

/-- The model's own: one entry of the schedule, saying which of the four agents (R5) moves and,
for HOST and DEVICE, with what (log 5). -/
inductive Move where
  /-- HOST presents an operation at the host operation port. -/
  | offer (o : Offer)
  /-- HOST asserts INTR (R6 port 5, R150). -/
  | intr
  /-- DEVICE delivers a chunk of bytes (R102). -/
  | device (chunk : List Byte)
  /-- TIMER expires the armed timer (R153). -/
  | timer
  /-- CTRL takes its step (R126). -/
  | ctrl
  deriving DecidableEq, Repr

/-- The model's own: the environment as plain data (log 5, log 8). -/
structure Env where
  /-- The schedule, oldest move first. -/
  moves : List Move
  /-- The transport's answers to the block's questions (device found; channel available), oldest
  first, one consumed per question. -/
  answers : List Bool
  /-- How many questions were asked: the index of the free answer used when `answers` is empty. -/
  asked : Nat
  deriving DecidableEq, Repr

/-- R18, with the configuration record of R33 (log 1) and the model's own `env`. -/
structure State where
  /-- `cfg` (R7, R33): read-only. -/
  cfg : Cfg
  /-- `phase` (R19, R20). -/
  phase : Phase
  /-- `fan_active` (R21): false is Passive, true is Active. -/
  fanActive : Bool
  /-- `t_cur` (R23). -/
  tCur : TelemetryValue
  /-- `r_cur` (R24): observed only. -/
  rCur : TelemetryValue
  /-- `owner` (R25). -/
  owner : Owner
  /-- `rx_open` (R26). -/
  rxOpen : Bool
  /-- `rx_kind` (R26). -/
  rxKind : RxKind
  /-- `rx_buf` (R26; space RB of R41). -/
  rxBuf : List Byte
  /-- `fr` (R27; space FR of R41). -/
  fr : Memory
  /-- `tmr` (R28). -/
  tmr : Option (TimerName × Duration)
  /-- `h_pend` (R32). -/
  hPend : Option Pending
  /-- `fault` (R29): the code and the offending payload length (R144). -/
  fault : Option (FaultCode × Nat)
  /-- `refused` (R30): sticky. -/
  refused : Bool
  /-- `hist` (R31): oldest event first. -/
  hist : List Event
  /-- The model's own: schedule and transport answers. -/
  env : Env
  deriving DecidableEq, Repr

/-- Why a step is none. -/
inductive Fault where
  /-- Raised by exec, and by step for a HOST, CTRL or TIMER move and for an empty schedule, when
  `phase = HALTED`: "HALTED is quiescent: no HOST, CTRL or TIMER step is enabled" (R147; I17
  `stuck`). Safe: the machine has no such step either. -/
  | halted
  deriving DecidableEq, Repr

/-- Why a step has no meaning. -/
inductive Refusal where
  /-- Raised by an arm of exec that has no meaning yet; no arm is left so. Safe. -/
  | notModelled (mnemonic : String)
  /-- Raised by step when `cfg` breaks a constraint of R7: "A record that breaks a constraint is
  refused" (R166, I19). Safe: no block runs with such a record. -/
  | illegalConfig
  deriving DecidableEq, Repr

/-- R163 for a block instantiated with `c`, the schedule empty. `fr` has no value in the spec
(I20); here every byte reads 0x00 (log 11). -/
def State.resetWith (c : Cfg) : State where
  cfg := c
  phase := .idle
  fanActive := false
  tCur := .undef
  rCur := .undef
  owner := .none
  rxOpen := false
  rxKind := .read
  rxBuf := []
  fr := []
  tmr := none
  hPend := none
  fault := none
  refused := false
  hist := []
  env := { moves := [], answers := [], asked := 0 }

/-- R163: the machine right after reset, its OPEN parameters free (log 2). -/
def State.reset : State := State.resetWith Config.record

end Sys2Proof.Machine
end

