-- ==== Sys2Proof/Machine/Ops.lean ====
section
/-! DEFINITION. The named operations over the spaces and the registers: frame memory, the
primitives of spec/00_scope.md R13, the refusal mark, and TAKING THE FAULT
(spec/60_exceptions.md R147). The block has no return from a fault (R152). -/

namespace Sys2Proof.Machine

/-! ### A byte-addressed space -/

/-- What an address nothing has written reads as: 0x00 (DESIGN CHOICE, log 11; R27 and I20 give no
value). -/
def Memory.unlisted : Byte := 0#8

/-- The canonical form: addresses strictly rising, no cell equal to the unlisted byte. -/
def Memory.wf : Memory → Bool
  | [] => true
  | [(_, b)] => b != Memory.unlisted
  | (k, b) :: (k', b') :: m => decide (k < k') && (b != Memory.unlisted) && Memory.wf ((k', b') :: m)

def Memory.read : Memory → Nat → Byte
  | [], _ => Memory.unlisted
  | (k, b) :: m, a => if k = a then b else Memory.read m a

/-- The space without address a. -/
def Memory.clear : Memory → Nat → Memory
  | [], _ => []
  | (k, v) :: m, a => if k = a then Memory.clear m a else (k, v) :: Memory.clear m a

/-- A cell put before the first higher address. -/
def Memory.insert : Memory → Nat → Byte → Memory
  | [], a, b => [(a, b)]
  | (k, v) :: m, a, b =>
    if a < k then (a, b) :: (k, v) :: m else (k, v) :: Memory.insert m a b

/-- A byte written; writing what an unlisted address reads as removes the cell. -/
def Memory.write (m : Memory) (a : Nat) (b : Byte) : Memory :=
  if b = Memory.unlisted then m.clear a else (m.clear a).insert a b

/-- Bytes written at rising addresses from a. -/
def Memory.writeList (m : Memory) (a : Nat) : List Byte → Memory
  | [] => m
  | b :: bs => Memory.writeList (m.write a b) (a + 1) bs

/-- n bytes read at rising addresses from a. -/
def Memory.readList (m : Memory) (a : Nat) : Nat → List Byte
  | 0 => []
  | n + 1 => m.read a :: Memory.readList m (a + 1) n

/-! ### The frame register, R27, R41, R42 -/

/-- `MemRead(FR, i, 1)`: "defined for `0 <= i <= 64`" (R41), that is below FRAME_LEN. -/
def State.frRead (s : State) (i : Nat) : Option Byte :=
  if i < s.cfg.frameLen then some (s.fr.read i) else none

/-- All bytes of FR, as TxSend reads them (R27, R99). -/
def State.frame (s : State) : List Byte := s.fr.readList 0 s.cfg.frameLen

/-- R95: `[rid] ++ payload ++ zeros(FRAME_LEN - 1 - len(payload))`. -/
def frameOf (c : Cfg) (rid : Byte) (payload : List Byte) : List Byte :=
  rid :: (payload ++ zeros (c.frameLen - 1 - payload.length))

/-- R95, the loop of `MemWrite(FR, i, 1, f[i])`. -/
def State.writeFrame (s : State) (f : List Byte) : State := { s with fr := s.fr.writeList 0 f }

/-! ### Primitives of R13 -/

/-- `emit(ev)`: R31. -/
def State.emit (s : State) (ev : Event) : State := { s with hist := s.hist ++ [ev] }

/-- A host operation completes: its one DONE event (R77, R143). -/
def State.done (s : State) (op : Opcode) (code : Status) (r : Result) : State :=
  s.emit (.done op code r)

/-- `TimerStart(name, d)`: R153. -/
def State.timerStart (s : State) (name : TimerName) (d : Duration) : State :=
  { s with tmr := some (name, d) }

/-- `RxOpen(kind, d)`: R101. -/
def State.rxOpenWindow (s : State) (kind : RxKind) (d : Duration) : State :=
  { s with rxBuf := [], rxOpen := true, rxKind := kind }.timerStart .win d

/-- The sink part of RxClose, R104: window shut, buffer cleared, timer disarmed. -/
def State.rxClose (s : State) : State := { s with rxOpen := false, rxBuf := [], tmr := none }

/-- A host operation waits for its window: `h_pend <- p; phase <- H_WAIT` (R32). -/
def State.await (s : State) (p : Pending) : State := { s with hPend := some p, phase := .hWait }

/-- A pending host operation completes: `phase <- IDLE; h_pend <- None`. -/
def State.resume (s : State) : State := { s with phase := .idle, hPend := none }

/-- R131: `TimerStart(SLEEP, cfg.POLL_INTERVAL)` and phase C_SLEEP. -/
def State.enterSleep (s : State) : State :=
  { s.timerStart .sleep s.cfg.pollInterval with phase := .cSleep }

/-- The transport's next answer: the one the state's data lists, else the free one (log 8). -/
def Env.answerOr (e : Env) (free : Bool) : Bool := e.answers.headD free

/-- R97, R134: the enumeration answer for `cfg.VID` and `cfg.PID_USB`, a draw. -/
def State.found (s : State) : Bool :=
  s.env.answerOr (Config.freeFound s.cfg.vid s.cfg.pidUsb s.env.asked)

/-- R99: the output-channel answer, a draw at each send: true is `ok`, false `no_channel`. -/
def State.channel (s : State) : Bool := s.env.answerOr (Config.freeChannel s.env.asked)

/-- The answer just drawn is consumed. -/
def State.answered (s : State) : State :=
  { s with env := { s.env with answers := s.env.answers.tail, asked := s.env.asked + 1 } }

/-- The schedule after its first move was taken. -/
def State.withMoves (s : State) (ms : List Move) : State :=
  { s with env := { s.env with moves := ms } }

/-! ### Refusal and fault -/

/-- R14 outcome 3, R30: the sticky refusal mark; nothing else changes. -/
def State.refuse (s : State) : State := { s with refused := true }

/-- R147, fault entry, all in one step. -/
def State.raiseFault (s : State) (c : FaultCode) (info : Nat) : State :=
  { s with
    fault := some (c, info)
    hist := s.hist ++ [.fault c]
    rxOpen := false
    rxBuf := []
    tmr := none
    hPend := none
    owner := .none
    phase := .halted }

/-! ### Admission of a host operation -/

/-- The `C_*` phases (R19). -/
def Phase.isCycle : Phase → Bool
  | .cRtSend | .cRtWait | .cRrSend | .cRrWait | .cDecide | .cModeSend | .cModeWait | .cSleep => true
  | .idle | .hWait | .halted => false

/-- The phases in which a response window is open (R36 (a)). -/
def Phase.isWindow : Phase → Bool
  | .hWait | .cRtWait | .cRrWait | .cModeWait => true
  | .idle | .cRtSend | .cRrSend | .cDecide | .cModeSend | .cSleep | .halted => false

/-- R93, R94: the operations that touch no transport, "in phases `IDLE` and `C_*`". -/
def State.admitsPure (s : State) : Bool := decide (s.phase = .idle) || s.phase.isCycle

/-- R94, R134: a transport operation in phase IDLE by the stated owner. -/
def State.admitsTransport (s : State) (o : Owner) : Bool :=
  decide (s.phase = .idle) && decide (s.owner = o)

/-- One HOST step. In HALTED there is none (R93, R147, I17); an operation that the phase or owner
does not admit sets the refusal mark and does nothing else (R30, R172); an admitted one has its
effect. -/
def hostOp (admitted : Bool) (effect : State → State) (s : State) :
    Host.Outcome State Fault Refusal :=
  if s.phase = .halted then .fault .halted
  else .next (if admitted then effect s else s.refuse)

end Sys2Proof.Machine
end

