-- ==== Sys2Proof/Machine/Operands.lean ====
section
/-! DEFINITION. The operand formats and pure functions: the F16 word (spec/30_encoding.md R60 to
R63, spec/41_codec.md R81), the percent encoder (R86), the interpolation
(spec/44_controller.md R121), the command payloads (spec/43_commands.md R109), the reading of a
response (R114), and the numeric codes (spec/60_exceptions.md R143). -/

namespace Sys2Proof.Machine

/-! ### F16 -/

/-- R37, R63: `v = (hi << 8) | lo`. -/
def f16Word (lo hi : Byte) : U16 := (hi.setWidth 16 <<< 8) ||| lo.setWidth 16

/-- R60: `v[10:0]`. -/
def f16Fraction (v : U16) : Nat := (v &&& 0x7FF#16).toNat

/-- R60: `v[14:11]`. -/
def f16Magnitude (v : U16) : Nat := ((v >>> 11) &&& 0xF#16).toNat

/-- R60: `v[15]`, the sign of the exponent (C1). -/
def f16Sign (v : U16) : Nat := ((v >>> 15) &&& 0x1#16).toNat

/-- R61, R82: integer subtraction of 16 when the sign bit is set. -/
def f16Exponent (v : U16) : Int :=
  if f16Sign v = 1 then (f16Magnitude v : Int) - 16 else (f16Magnitude v : Int)

/-- R81: `2^exponent * fraction`, exact. -/
def f16Value (v : U16) : Rat := (2 : Rat) ^ f16Exponent v * (f16Fraction v : Rat)

/-- R81. -/
def decode16 (lo hi : Byte) : Rat := f16Value (f16Word lo hi)

/-! ### Percent and temperature -/

/-- R86, R87: the clamps first, then `9 + floor(((p - 1) / 99) * 91)`, floor toward minus
infinity (R89). -/
def encpct (p : Rat) : Int :=
  if p ≤ 0 then 0
  else if 100 ≤ p then 100
  else 9 + Rat.floor ((p - 1) / 99 * 91)

/-- The parameter byte of a manual command: ENCPCT's result "always fits one unsigned byte"
(R69, R88). -/
def encpctByte (p : Rat) : Byte := BitVec.ofInt 8 (encpct p)

/-- R121. -/
def temp2pct (c : Cfg) (t : Rat) : Rat :=
  if t < c.minTemp then c.minFan
  else if c.maxTemp < t then c.maxFan
  else c.minFan + (t - c.minTemp) * (c.maxFan - c.minFan) / (c.maxTemp - c.minTemp)

/-! ### Power, R90, R91 -/

/-- One turn of R90's loop: the term is added, or omitted when either operand is `Undef`. -/
def addPower (total : Rat) : TelemetryValue → TelemetryValue → Rat
  | .val a, .val b => total + a * b
  | .val _, .undef => total
  | .undef, .val _ => total
  | .undef, .undef => total

/-- R90. -/
def aggPower (v12 v5 v33 i12 i5 i33 : TelemetryValue) : Rat :=
  addPower (addPower (addPower 0 v12 i12) v5 i5) v33 i33

/-! ### Command payloads, R109 -/

/-- P-RD, R66. -/
def payloadReadParam (b : Byte) : List Byte := [0x31#8, b]

/-- P-FM, R67. -/
def payloadFanMode (param1 param2 : Byte) : List Byte := [0x30#8, 0x41#8, param1, param2]

/-- P-RGB, R68. -/
def payloadRgbOff : List Byte := [0x30#8, 0x42#8, 0x19#8, 0x00#8, 0x00#8, 0x00#8]

/-- R67, R117: the mode's parameter-1 byte. -/
def fanModeByte : FanMode → Byte
  | .silent => 0x01#8
  | .performance => 0x02#8
  | .passive => 0x03#8
  | .manual => 0x04#8

/-- R69, R116: `ENCPCT(speed)` where the operation carries a speed (manual), else 0x00 (D19). -/
def fanModeParam2 : Option Rat → Byte
  | some speed => encpctByte speed
  | none => 0x00#8

/-- R124: CTRL_CMD. -/
def ctrlCmd (c : Cfg) (active : Bool) (t : Rat) : List Byte :=
  if active then payloadFanMode 0x04#8 (encpctByte (temp2pct c t))
  else payloadFanMode 0x03#8 0x00#8

/-! ### Parameter ids, R44 -/

/-- R44: the quantities the source names. The block passes every id through uninterpreted (R115). -/
inductive Parameter where
  | inputVoltage
  | voltage12
  | voltage5
  | voltage33
  | current12
  | current5
  | current33
  | temperature
  | fanRpm
  deriving DecidableEq, Repr

/-- R44. -/
def Parameter.id : Parameter → Byte
  | .inputVoltage => 0x33#8
  | .voltage12 => 0x34#8
  | .voltage5 => 0x35#8
  | .voltage33 => 0x36#8
  | .current12 => 0x37#8
  | .current5 => 0x38#8
  | .current33 => 0x39#8
  | .temperature => 0x3A#8
  | .fanRpm => 0x3B#8

/-! ### A response, R114 -/

/-- RESP_DECODE. A legal record keeps both offsets below RESP_MIN_LEN (R7), so the reads are inside
the bytes; outside them no rule reads (R41) and the value stays `Undef` (log 28). -/
def respDecode (c : Cfg) (bytes : List Byte) : TelemetryValue :=
  if c.respMinLen ≤ bytes.length then
    match bytes[c.respLoOff]?, bytes[c.respHiOff]? with
    | some lo, some hi => .val (decode16 lo hi)
    | _, _ => .undef
  else .undef

/-- R113: the status of a read that closed its window with this value. -/
def telStatus : TelemetryValue → Status
  | .val _ => .ok
  | .undef => .decodeUndefined

/-- R102: `take(cfg.RX_CAP, …)`; unbounded takes all. -/
def capTo : Option Nat → List Byte → List Byte
  | some n, bytes => bytes.take n
  | none, bytes => bytes

/-! ### Numeric codes, R143 -/

def Status.code : Status → Byte
  | .ok => 0x00#8
  | .deviceNotFound => 0x01#8
  | .transportUnavailable => 0x02#8
  | .decodeUndefined => 0x04#8
  | .interruptedByUser => 0x05#8

def FaultCode.code : FaultCode → Byte
  | .frameEncodingError => 0x03#8

end Sys2Proof.Machine
end

