-- ==== Sys2Proof/Machine/Flags.lean ====
section
/-! DEFINITION. The block's flag computations: the controller flag `fan_active`
(spec/44_controller.md R122) and the sanity filter (R129). There is no other flag
(spec/10_state.md R21, R22). -/

namespace Sys2Proof.Machine

/-- R122: CTRL_NEXT, the new `fan_active`. -/
def ctrlNext (c : Cfg) (active : Bool) (t : Rat) : Bool :=
  if active = false ∧ c.minTemp ≤ t then true
  else if active = true ∧ t ≤ c.minTemp - c.passiveDelta then false
  else active

/-- What C_DECIDE finds in `t_cur` (R129): skip, or a temperature that passes the filter. -/
inductive Sanity where
  | skip (reason : SkipReason)
  | pass (t : Rat)
  deriving DecidableEq, Repr

/-- R129, R151: `Undef` first, then the strict floor (R137). -/
def sanity (c : Cfg) : TelemetryValue → Sanity
  | .undef => .skip .undef
  | .val t => if t < c.sanityFloor then .skip .belowFloor else .pass t

end Sys2Proof.Machine
end

