-- ==== Sys2Proof/Machine/Framer.lean ====
section
/-! DEFINITION. FRAMER (spec/42_framer.md): BUILDFRAME, OPEN, CLOSE, SEND, READRESP, and RX
arrival. -/

namespace Sys2Proof.Machine

/-- What a SEND came to (R99). -/
inductive Sent where
  /-- The frame left: its TX event is in the history. -/
  | ok
  /-- `no_channel`: no frame left the block. -/
  | noChannel
  /-- The payload is too long: the fault was raised. -/
  | malformed
  deriving DecidableEq, Repr

/-- R95: `1 + len(payload) > cfg.FRAME_LEN`. -/
def tooLong (c : Cfg) (payload : List Byte) : Bool := decide (c.frameLen < 1 + payload.length)

/-- R99, R108, inside any operation: the frame is built first, then the channel asked; the TX
event carries the bytes read back from FR (R27). -/
def State.sendFrame (s : State) (rid : Byte) (payload : List Byte) : Sent × State :=
  if tooLong s.cfg payload then (.malformed, s.raiseFault .frameEncodingError payload.length)
  else
    let t := s.writeFrame (frameOf s.cfg rid payload)
    if t.channel then (.ok, t.answered.emit (.tx t.frame)) else (.noChannel, t.answered)

/-- R95 as a host operation. -/
def buildframeEffect (rid : Byte) (payload : List Byte) (s : State) : State :=
  if tooLong s.cfg payload then s.raiseFault .frameEncodingError payload.length
  else
    (s.writeFrame (frameOf s.cfg rid payload)).done .buildframe .ok
      (.frame (frameOf s.cfg rid payload))

/-- BUILDFRAME, R95, R96. -/
def execBuildframe (rid : Byte) (payload : List Byte) (s : State) :
    Host.Outcome State Fault Refusal :=
  hostOp s.admitsPure (buildframeEffect rid payload) s

/-- R97: the enumeration answer is a draw. -/
def openEffect (s : State) : State :=
  if s.found then { s.answered with owner := .host }.done .openTransport .ok .none
  else s.answered.done .openTransport .deviceNotFound .none

/-- OPEN, R97. -/
def execOpenTransport (s : State) : Host.Outcome State Fault Refusal :=
  hostOp (s.admitsTransport .none) openEffect s

/-- R98: admitted with owner NONE or HOST (log 17). -/
def closeEffect (s : State) : State := { s with owner := .none }.done .closeTransport .ok .none

/-- CLOSE, R98. -/
def execCloseTransport (s : State) : Host.Outcome State Fault Refusal :=
  hostOp (s.admitsTransport .none || s.admitsTransport .host) closeEffect s

/-- R99 as a host operation: the send and its DONE event; no window (R99 corner cases). -/
def sendEffect (rid : Byte) (payload : List Byte) (s : State) : State :=
  match s.sendFrame rid payload with
  | (.ok, t) => t.done .send .ok .none
  | (.noChannel, t) => t.done .send .transportUnavailable .none
  | (.malformed, t) => t

/-- SEND, R99. -/
def execSend (rid : Byte) (payload : List Byte) (s : State) : Host.Outcome State Fault Refusal :=
  hostOp (s.admitsTransport .host) (sendEffect rid payload) s

/-- READRESP, R100: the issue step. -/
def execReadresp (d : Duration) (s : State) : Host.Outcome State Fault Refusal :=
  hostOp (s.admitsTransport .host) (fun t => (t.rxOpenWindow .read d).await .readresp) s

/-- RX arrival, R102, R48: appended while a window is open, else discarded. No other state
changes and no event. -/
def State.rxArrive (s : State) (chunk : List Byte) : State :=
  if s.rxOpen then { s with rxBuf := capTo s.cfg.rxCap (s.rxBuf ++ chunk) } else s

end Sys2Proof.Machine
end

