-- ==== Sys2Proof/Machine/Codec.lean ====
section
/-! DEFINITION. CODEC (spec/41_codec.md): DECODE16, ENCPCT, AGG_POWER as host operations: pure,
one step, phase unchanged (R93). -/

namespace Sys2Proof.Machine

/-- DECODE16, R81. -/
def execDecode16 (lo hi : Byte) (s : State) : Host.Outcome State Fault Refusal :=
  hostOp s.admitsPure (fun t => t.done .decode16 .ok (.rational (decode16 lo hi))) s

/-- ENCPCT, R86. -/
def execEncpct (p : Rat) (s : State) : Host.Outcome State Fault Refusal :=
  hostOp s.admitsPure (fun t => t.done .encpct .ok (.integer (encpct p))) s

/-- AGG_POWER, R90. -/
def execAggPower (v12 v5 v33 i12 i5 i33 : TelemetryValue) (s : State) :
    Host.Outcome State Fault Refusal :=
  hostOp s.admitsPure
    (fun t => t.done .aggPower .ok (.rational (aggPower v12 v5 v33 i12 i5 i33))) s

end Sys2Proof.Machine
end

