-- ==== Sys2Proof/Machine/Commands.lean ====
section
/-! DEFINITION. CMDP (spec/43_commands.md): GET_TELEMETRY, SET_MODE, RGBOFF, the three wire
commands, and the completion of a pending host operation at its window close. -/

namespace Sys2Proof.Machine

/-- R113, issue step. -/
def getTelemetryEffect (b : Byte) (s : State) : State :=
  match s.sendFrame s.cfg.reportId (payloadReadParam b) with
  | (.ok, t) => (t.rxOpenWindow .read s.cfg.tWinRead).await (.getTelemetry b)
  | (.noChannel, t) =>
    (t.emit (.tel b .undef)).done .getTelemetry .transportUnavailable (.telemetry .undef)
  | (.malformed, t) => t

/-- GET_TELEMETRY, R113. -/
def execGetTelemetry (b : Byte) (s : State) : Host.Outcome State Fault Refusal :=
  hostOp (s.admitsTransport .host) (getTelemetryEffect b) s

/-- R116, R118: a one-shot command: send, CMD window, wait; or TRANSPORT_UNAVAILABLE with no
window. -/
def commandEffect (op : Opcode) (pending : Pending) (payload : List Byte) (s : State) : State :=
  match s.sendFrame s.cfg.reportId payload with
  | (.ok, t) => (t.rxOpenWindow .cmd s.cfg.tWinCmd).await pending
  | (.noChannel, t) => t.done op .transportUnavailable .none
  | (.malformed, t) => t

/-- SET_MODE, R116. An ill-formed operand shape is refused (R72, R76). -/
def execSetMode (mode : FanMode) (speed : Option Rat) (s : State) :
    Host.Outcome State Fault Refusal :=
  hostOp ((Instr.setMode mode speed).wellFormed && s.admitsTransport .host)
    (commandEffect .setMode .setMode (payloadFanMode (fanModeByte mode) (fanModeParam2 speed))) s

/-- RGBOFF, R118. -/
def execRgboff (s : State) : Host.Outcome State Fault Refusal :=
  hostOp (s.admitsTransport .host) (commandEffect .rgboff .rgboff payloadRgbOff) s

/-- CMD_READ_PARAM, R110: "none beyond its transfer", the SEND of `[0x31, b]` with REPORT_ID
(log 14). -/
def execCmdReadParam (b : Byte) (s : State) : Host.Outcome State Fault Refusal :=
  hostOp (s.admitsTransport .host) (fun t => sendEffect t.cfg.reportId (payloadReadParam b) t) s

/-- CMD_SET_FAN_MODE, R111: the SEND of `[0x30, 0x41, param1, param2]`, any two bytes (R71;
log 14). -/
def execCmdSetFanMode (param1 param2 : Byte) (s : State) : Host.Outcome State Fault Refusal :=
  hostOp (s.admitsTransport .host)
    (fun t => sendEffect t.cfg.reportId (payloadFanMode param1 param2) t) s

/-- CMD_RGB_OFF, R112: the SEND of the constant payload (log 14). -/
def execCmdRgbOff (s : State) : Host.Outcome State Fault Refusal :=
  hostOp (s.admitsTransport .host) (fun t => sendEffect t.cfg.reportId payloadRgbOff t) s

/-- R104 in H_WAIT: the pending operation completes with the window's bytes (R100, R113, R116,
R118). With nothing pending (no reachable state, R36 (e)) nothing completes (log 19). -/
def State.completePending (s : State) (bytes : List Byte) : State :=
  match s.hPend with
  | some .readresp => s.resume.done .readresp .ok (.bytes bytes)
  | some (.getTelemetry b) =>
    (s.emit (.tel b (respDecode s.cfg bytes))).resume.done .getTelemetry
      (telStatus (respDecode s.cfg bytes)) (.telemetry (respDecode s.cfg bytes))
  | some .setMode => s.resume.done .setMode .ok .none
  | some .rgboff => s.resume.done .rgboff .ok .none
  | none => s

end Sys2Proof.Machine
end

