-- ==== Sys2Proof/Machine/Controller.lean ====
section
/-! DEFINITION. CTRL (spec/44_controller.md): TEMP2PCT, LOOP_START, LOOP_STOP, the steps of the
control cycle, and the timer expiries (spec/42_framer.md R104, spec/60_exceptions.md R153). -/

namespace Sys2Proof.Machine

/-- TEMP2PCT, R121. -/
def execTemp2pct (t : Rat) (s : State) : Host.Outcome State Fault Refusal :=
  hostOp s.admitsPure (fun u => u.done .temp2pct .ok (.rational (temp2pct u.cfg t))) s

/-- R134: the enumeration answer is a draw. -/
def loopStartEffect (s : State) : State :=
  if s.found then
    { s.answered with
      owner := .loop
      fanActive := false
      tCur := .undef
      rCur := .undef
      phase := .cRtSend }.done .loopStart .ok .none
  else s.answered.done .loopStart .deviceNotFound .none

/-- LOOP_START, R134. -/
def execLoopStart (s : State) : Host.Outcome State Fault Refusal :=
  hostOp (s.admitsTransport .none) loopStartEffect s

/-- R135: the window is abandoned with no WIN event, timer and pending operation cleared, the
transport released. -/
def loopStopEffect (s : State) : State :=
  ({ s with
    rxOpen := false
    rxBuf := if s.rxOpen then [] else s.rxBuf
    tmr := none
    hPend := none
    owner := .none
    phase := .idle }.emit .stopped).done .loopStop .interruptedByUser .none

/-- LOOP_STOP, R135: "admitted in every phase except `HALTED`". -/
def execLoopStop (s : State) : Host.Outcome State Fault Refusal := hostOp true loopStopEffect s

/-! ### The CTRL agent -/

/-- R126: CTRL has a step in these phases, "while `owner = LOOP`"; elsewhere it holds. -/
def State.ctrlEnabled (s : State) : Bool :=
  decide (s.owner = .loop) &&
    match s.phase with
    | .cRtSend | .cRrSend | .cDecide | .cModeSend => true
    | .idle | .hWait | .cRtWait | .cRrWait | .cModeWait | .cSleep | .halted => false

/-- R127: the record of a read whose send failed (D12). -/
def State.readFailed (s : State) (pid : Byte) : State :=
  (s.emit (.tel pid .undef)).emit (.cycleErr .transportUnavailable)

/-- C_RT_SEND, R127. -/
def ctrlTempSend (s : State) : State :=
  match s.sendFrame s.cfg.reportId (payloadReadParam s.cfg.pidTemp) with
  | (.ok, t) => { t.rxOpenWindow .read s.cfg.tWinRead with phase := .cRtWait }
  | (.noChannel, t) => { t.readFailed s.cfg.pidTemp with tCur := .undef, phase := .cRrSend }
  | (.malformed, t) => t

/-- C_RR_SEND, R127. -/
def ctrlRpmSend (s : State) : State :=
  match s.sendFrame s.cfg.reportId (payloadReadParam s.cfg.pidRpm) with
  | (.ok, t) => { t.rxOpenWindow .read s.cfg.tWinRead with phase := .cRrWait }
  | (.noChannel, t) => { t.readFailed s.cfg.pidRpm with rCur := .undef, phase := .cDecide }
  | (.malformed, t) => t

/-- C_DECIDE, R129. -/
def ctrlDecide (s : State) : State :=
  match sanity s.cfg s.tCur with
  | .skip reason => (s.emit (.skip reason)).enterSleep
  | .pass t => { s with fanActive := ctrlNext s.cfg s.fanActive t, phase := .cModeSend }

/-- C_MODE_SEND, R130: "(t_cur = Val(t))". With `t_cur = Undef` (no reachable state, R129) the rule
gives no step and CTRL holds (log 19). -/
def ctrlModeSend (s : State) : State :=
  match s.tCur with
  | .val temp =>
    match s.sendFrame s.cfg.reportId (ctrlCmd s.cfg s.fanActive temp) with
    | (.ok, t) => { t.rxOpenWindow .cmd s.cfg.tWinCmd with phase := .cModeWait }
    | (.noChannel, t) => (t.emit (.cycleErr .transportUnavailable)).enterSleep
    | (.malformed, t) => t
  | .undef => s

/-- The CTRL step of the current phase, R126; a hold where CTRL has none. -/
def State.ctrlStep (s : State) : State :=
  if s.ctrlEnabled then
    match s.phase with
    | .cRtSend => ctrlTempSend s
    | .cRrSend => ctrlRpmSend s
    | .cDecide => ctrlDecide s
    | .cModeSend => ctrlModeSend s
    | .idle | .hWait | .cRtWait | .cRrWait | .cModeWait | .cSleep | .halted => s
  else s

/-! ### The TIMER agent -/

/-- Window close, R104: RxClose, the WIN event, then the waiting party's part (R128, R130). In a
phase that waits for no window (no reachable state, R36 (a)) nobody's part follows (log 19). -/
def State.windowClose (s : State) : State :=
  let t := s.rxClose.emit (.win s.rxKind s.rxBuf)
  match s.phase with
  | .hWait => t.completePending s.rxBuf
  | .cRtWait =>
    { t.emit (.tel s.cfg.pidTemp (respDecode s.cfg s.rxBuf)) with
      tCur := respDecode s.cfg s.rxBuf, phase := .cRrSend }
  | .cRrWait =>
    { t.emit (.tel s.cfg.pidRpm (respDecode s.cfg s.rxBuf)) with
      rCur := respDecode s.cfg s.rxBuf, phase := .cDecide }
  | .cModeWait => t.enterSleep
  | .idle | .cRtSend | .cRrSend | .cDecide | .cModeSend | .cSleep | .halted => t

/-- R153: the expiry of the armed timer: the window close, or the next cycle (R131); a hold when
no timer is armed. -/
def State.timerStep (s : State) : State :=
  match s.tmr with
  | some (.win, _) => s.windowClose
  | some (.sleep, _) => { s with tmr := none, phase := .cRtSend }
  | none => s

end Sys2Proof.Machine
end

