-- ==== Sys2Proof/Machine/Dispatch.lean ====
section
/-! DEFINITION. The dispatch: one arm per constructor of Instr, one direct call of its meaning. -/

namespace Sys2Proof.Machine

def exec (i : Instr) (s : State) : Host.Outcome State Fault Refusal :=
  match i with
  | .decode16 lo hi => Sys2Proof.Machine.execDecode16 lo hi s
  | .encpct p => Sys2Proof.Machine.execEncpct p s
  | .temp2pct t => Sys2Proof.Machine.execTemp2pct t s
  | .buildframe rid payload => Sys2Proof.Machine.execBuildframe rid payload s
  | .openTransport => Sys2Proof.Machine.execOpenTransport s
  | .closeTransport => Sys2Proof.Machine.execCloseTransport s
  | .send rid payload => Sys2Proof.Machine.execSend rid payload s
  | .readresp d => Sys2Proof.Machine.execReadresp d s
  | .getTelemetry b => Sys2Proof.Machine.execGetTelemetry b s
  | .setMode mode speed => Sys2Proof.Machine.execSetMode mode speed s
  | .rgboff => Sys2Proof.Machine.execRgboff s
  | .aggPower v12 v5 v33 i12 i5 i33 => Sys2Proof.Machine.execAggPower v12 v5 v33 i12 i5 i33 s
  | .loopStart => Sys2Proof.Machine.execLoopStart s
  | .loopStop => Sys2Proof.Machine.execLoopStop s
  | .cmdReadParam b => Sys2Proof.Machine.execCmdReadParam b s
  | .cmdSetFanMode param1 param2 => Sys2Proof.Machine.execCmdSetFanMode param1 param2 s
  | .cmdRgbOff => Sys2Proof.Machine.execCmdRgbOff s

end Sys2Proof.Machine
end

