-- ==== Sys2Proof/Machine/Agents.lean ====
section
/-! DEFINITION. One move of one agent (spec/00_scope.md R5, R14; spec/60_exceptions.md R150,
R151), and what happens when the schedule lists no move. -/

namespace Sys2Proof.Machine

/-- HOST presents an offer: the instruction it decodes to is executed; an offer that is no
instruction is refused (R14, R72). -/
def hostMove (o : Offer) (s : State) : Host.Outcome State Fault Refusal :=
  match decode o with
  | .ok i => exec i s
  | .error _ => hostOp false id s

/-- A CTRL or TIMER move: none in HALTED (R147). -/
def blockMove (effect : State → State) (s : State) : Host.Outcome State Fault Refusal :=
  if s.phase = .halted then .fault .halted else .next (effect s)

/-- One move. An agent that is not enabled holds: its move changes nothing (R14 outcome 4;
log 7). A DEVICE chunk is taken in every phase (R29, R102). -/
def runMove (m : Move) (s : State) : Host.Outcome State Fault Refusal :=
  match m with
  | .offer o => hostMove o s
  | .intr => exec .loopStop s
  | .device chunk => .next (s.rxArrive chunk)
  | .timer => blockMove State.timerStep s
  | .ctrl => blockMove State.ctrlStep s

/-- With no move listed the environment is quiet: CTRL steps if it can, else an armed timer
expires (R177), else every agent holds (DESIGN CHOICE, log 6). -/
def quietMove (s : State) : Host.Outcome State Fault Refusal :=
  blockMove (fun t => if t.ctrlEnabled then t.ctrlStep else t.timerStep) s

/-- The next move of the schedule, or the quiet one. -/
def nextMove (s : State) : Host.Outcome State Fault Refusal :=
  match s.env.moves with
  | [] => quietMove s
  | m :: ms => runMove m (s.withMoves ms)

/-- The operation placed as the schedule's next move. -/
def State.offering (s : State) (o : Offer) : State := s.withMoves (.offer o :: s.env.moves)

end Sys2Proof.Machine
end

