-- ==== Sys2Proof/Machine/Step.lean ====
section
/-! DEFINITION. One step of the machine, and the placing of an instruction where the next step
takes it. -/

namespace Sys2Proof.Machine

/-- One step of one agent (R5, R14). A configuration record that breaks R7 is refused (R166). -/
def step (s : State) : Host.Outcome State Fault Refusal :=
  if s.cfg.Legal then nextMove s else .refused .illegalConfig

/-- The word of spec/opcode_table.json, operands zero, offered by HOST as the very next move. The
block has no instruction memory (R52): its program comes from HOST (log 20). -/
def State.withFetchWord (s : State) (nbits w : Nat) : State := s.offering (tableOffer nbits w)

end Sys2Proof.Machine
end

