-- ==== Sys2Proof/Safety.lean ====
section
/-! DEFINITION. What claims about the block are stated with: the state invariants of
spec/10_state.md R36, the host duties and the end of a run (spec/70_reset_and_hazards.md R174,
R178), and the reference form of the control loop that spec/44_controller.md R138 describes. -/

namespace Sys2Proof.Machine

/-- R36 (a) to (f), for the block's own fields. -/
structure Inv (s : State) : Prop where
  /-- (a) -/
  window : s.rxOpen = s.phase.isWindow
  /-- (b) -/
  loopOwner : s.owner = .loop ↔ s.phase.isCycle = true
  /-- (b) -/
  hostWaits : s.phase = .hWait → s.owner = .host
  /-- (c) -/
  faulted : s.fault.isSome = true ↔ s.phase = .halted
  /-- (c) -/
  quiescent : s.phase = .halted →
    s.owner = .none ∧ s.rxOpen = false ∧ s.tmr = none ∧ s.hPend = none
  /-- (d) -/
  winTimer : (∃ d, s.tmr = some (.win, d)) ↔ s.rxOpen = true
  /-- (d) -/
  sleepTimer : (∃ d, s.tmr = some (.sleep, d)) ↔ s.phase = .cSleep
  /-- (e) -/
  pending : s.hPend.isSome = true ↔ s.phase = .hWait
  /-- (f) -/
  capacity : ∀ n, s.cfg.rxCap = some n → s.rxBuf.length ≤ n

/-- R26, R101: the kind of the window a pending host operation waits for. -/
def Pending.windowKind : Pending → RxKind
  | .readresp | .getTelemetry _ => .read
  | .setMode | .rgboff => .cmd

/-- Further facts of every reachable state that the rules give and R36 does not list. -/
structure Inv2 (s : State) : Prop where
  /-- RxClose clears the buffer and bytes outside a window are discarded (R102, R104). -/
  bufferEmpty : s.rxOpen = false → s.rxBuf = []
  /-- C_DECIDE lets only a temperature at or above the floor through (R129). -/
  modeTemp : s.phase = .cModeSend → ∃ t, s.tCur = .val t ∧ s.cfg.sanityFloor ≤ t
  /-- R101: the kind of an open window is that of the send it follows. -/
  readKind : s.phase = .cRtWait ∨ s.phase = .cRrWait → s.rxKind = .read
  /-- R101. -/
  cmdKind : s.phase = .cModeWait → s.rxKind = .cmd
  /-- R101, in H_WAIT: the window of the pending host operation has its kind. -/
  pendingKind : ∀ p, s.hPend = some p → s.rxKind = p.windowKind
  /-- The frame register is in its canonical form. -/
  frameWf : s.fr.wf = true
  /-- FR has the offsets below FRAME_LEN and no others (R41). -/
  frameBound : ∀ a, s.cfg.frameLen ≤ a → s.fr.read a = Memory.unlisted

/-- R40, R64: every frame in the history is one whole frame. -/
def WholeFrames (s : State) : Prop := ∀ f, Event.tx f ∈ s.hist → f.length = s.cfg.frameLen

/-- HOST moves of the schedule: operations and INTR. -/
def Move.isHost : Move → Bool
  | .offer _ | .intr => true
  | .device _ | .timer | .ctrl => false

/-- R178: a run ends well. -/
def EndsWell (s : State) : Prop :=
  s.phase = .idle ∧ s.fault = none ∧ s.refused = false ∧ ∀ m ∈ s.env.moves, m.isHost = false

/-! ### What the spec asks of HOST, R174 -/

/-- The instruction HOST's move presents to the block, if it is one. -/
def Move.instr? : Move → Option Instr
  | .offer o => (decode o).toOption
  | .intr => some .loopStop
  | .device _ | .timer | .ctrl => none

/-- Every move that presents i is followed by one that presents j. -/
def followedBy (i j : Instr) : List Move → Bool
  | [] => true
  | m :: ms => (m.instr? != some i || ms.any (fun m' => m'.instr? == some j)) && followedBy i j ms

/-- The payload of a raw BUILDFRAME or SEND leaves room for the report id. -/
def payloadFits (c : Cfg) : Instr → Bool
  | .buildframe _ p | .send _ p => decide (1 + p.length ≤ c.frameLen)
  | .decode16 _ _ | .encpct _ | .temp2pct _ | .aggPower _ _ _ _ _ _ | .openTransport
  | .closeTransport | .readresp _ | .getTelemetry _ | .setMode _ _ | .rgboff | .loopStart
  | .loopStop | .cmdReadParam _ | .cmdSetFanMode _ _ | .cmdRgbOff => true

/-- R174 (D35), the four host duties, over what HOST is scheduled to do. No definition of the model
assumes them; a claim that needs one names it (log 32). -/
structure HostDuties (c : Cfg) (expectedId : Byte) (ms : List Move) : Prop where
  /-- Duty 1: an OPEN, whatever its status, is followed by a CLOSE. -/
  releases : followedBy .openTransport .closeTransport ms = true
  /-- Duty 2: no BUILDFRAME or SEND with a payload of more than FRAME_LEN - 1 bytes (64). -/
  fits : ∀ m ∈ ms, m.instr?.all (payloadFits c) = true
  /-- Duty 3: REPORT_ID is the value the device expects; the block does not check it. -/
  reportId : c.reportId = expectedId
  /-- Duty 4: HOST ends a loop it starts by INTR, which is LOOP_STOP. -/
  interrupts : followedBy .loopStart .loopStop ms = true

/-- The events one step added to the history. -/
def Added (s t : State) (es : List Event) : Prop := t.hist = s.hist ++ es

/-! ### The loop as a function of the bytes its windows collect, R138 -/

/-- What DEVICE delivers in the three windows of a cycle. -/
structure CycleInput where
  temp : List Byte
  rpm : List Byte
  mode : List Byte
  deriving DecidableEq, Repr

/-- `T_k`: the value decoded from the temperature window (R128). -/
def CycleInput.temperature (c : Cfg) (x : CycleInput) : TelemetryValue :=
  respDecode c (capTo c.rxCap x.temp)

/-- `A_k` from `A_(k-1)` (R138). -/
def nextActive (c : Cfg) (active : Bool) (x : CycleInput) : Bool :=
  match sanity c (x.temperature c) with
  | .skip _ => active
  | .pass t => ctrlNext c active t

/-- The schedule of one cycle in which the windows collect x and every timer expires (R126). -/
def cycleMoves (c : Cfg) (x : CycleInput) : List Move :=
  [.ctrl, .device x.temp, .timer, .ctrl, .device x.rpm, .timer, .ctrl] ++
  (match sanity c (x.temperature c) with
    | .skip _ => []
    | .pass _ => [.ctrl, .device x.mode, .timer]) ++ [.timer]

/-- The events of one cycle in which every send succeeds, in order (R126 to R130; P3). -/
def cycleEvents (c : Cfg) (active : Bool) (x : CycleInput) : List Event :=
  [.tx (frameOf c c.reportId (payloadReadParam c.pidTemp)),
   .win .read (capTo c.rxCap x.temp),
   .tel c.pidTemp (x.temperature c),
   .tx (frameOf c c.reportId (payloadReadParam c.pidRpm)),
   .win .read (capTo c.rxCap x.rpm),
   .tel c.pidRpm (respDecode c (capTo c.rxCap x.rpm))] ++
  (match sanity c (x.temperature c) with
    | .skip reason => [.skip reason]
    | .pass t =>
      [.tx (frameOf c c.reportId (ctrlCmd c (ctrlNext c active t) t)),
       .win .cmd (capTo c.rxCap x.mode)])

/-- The schedule of a run of cycles. -/
def loopMoves (c : Cfg) : List CycleInput → List Move
  | [] => []
  | x :: xs => cycleMoves c x ++ loopMoves c xs

/-- `A_k` after a run of cycles (R138). -/
def loopActive (c : Cfg) (active : Bool) : List CycleInput → Bool
  | [] => active
  | x :: xs => loopActive c (nextActive c active x) xs

/-- The events of a run of cycles. -/
def loopEvents (c : Cfg) (active : Bool) : List CycleInput → List Event
  | [] => []
  | x :: xs => cycleEvents c active x ++ loopEvents c (nextActive c active x) xs

end Sys2Proof.Machine
end

