-- ==== Sys2Proof/Certificates/Slice0/Obligations.lean ====
section
/-! DEFINITION. The statements for the provers, from the numbered rules of spec/. A statement that
gives the next state as a record update says with it what the operation leaves unchanged: every
field it does not name. `env` is the model's own field: its schedule says which agent moves next
(log 5), its answers are the transport's (log 8). -/

open Sys2Proof Sys2Proof.Machine

/-! ### Encoding -/

/-- R75, R76, R109: every well-formed instruction is read back from its encoding, with every
operand value the port admits. -/
def Obligations.DecodeEncodeRoundTrip : Prop :=
  ∀ i : Instr, i.wellFormed = true → decode (encode i) = .ok i

/-- R72, R76: what the decoder accepts is well formed. -/
def Obligations.DecodedInstructionsWellFormed : Prop :=
  ∀ (o : Offer) (i : Instr), decode o = .ok i → i.wellFormed = true

/-- R72, R75, R14: the reserved selectors, and only they, are no operation; and whatever offer the
decoder rejects (a reserved selector, an operand of the wrong type, range, count or shape, a wire
payload that is no command), presenting it sets the refusal mark and changes nothing else (a next
state: log 9). That a wire payload of no command is refused is the model's choice (log 14): R71
passes such bytes through a SEND. -/
def Obligations.ReservedSelectorsRefused : Prop :=
  (∀ opsel : Byte, opcodeOf opsel = none ↔ (opsel = 0x00#8 ∨ 0x0F ≤ opsel.toNat)) ∧
  (∀ (opsel : Byte) (operands : List Operand), (opsel = 0x00#8 ∨ 0x0F ≤ opsel.toNat) →
    decode (.hostop opsel operands) = .error .reservedOpsel) ∧
  ∀ (s : State) (o : Offer) (e : DecodeError) (ms : List Move),
    s.cfg.Legal → s.phase ≠ .halted → decode o = .error e → s.env.moves = .offer o :: ms →
    step s = .next { s with refused := true, env := { s.env with moves := ms } }

/-- R72 item 2, R76, D26, R70: each way an offer under a defined selector, or a wire payload, can be
no instruction, in every operand position it can occur in, is rejected by name: a byte out of
range, an operand of another type, a NaN or infinity, a negative duration, an unknown mode, the
wrong shapes of SET_MODE, the wrong number of operands, an undefined command (that a wire payload
of no command is rejected is the model's choice: log 14). -/
def Obligations.IllTypedOperandsRejected : Prop :=
  -- a byte outside 0..255
  (∀ n : Nat, 256 ≤ n →
    decode (.hostop 0x09#8 [.byte n]) = .error .byteRange ∧
    (∀ x : Operand,
      decode (.hostop 0x01#8 [.byte n, x]) = .error .byteRange ∧
      decode (.hostop 0x04#8 [.byte n, x]) = .error .byteRange ∧
      decode (.hostop 0x07#8 [.byte n, x]) = .error .byteRange) ∧
    ∀ k : Nat, k < 256 →
      decode (.hostop 0x01#8 [.byte k, .byte n]) = .error .byteRange ∧
      ∀ p : List Nat, n ∈ p →
        decode (.hostop 0x04#8 [.byte k, .payload p]) = .error .byteRange ∧
        decode (.hostop 0x07#8 [.byte k, .payload p]) = .error .byteRange) ∧
  -- no byte where a byte is taken
  (∀ x : Operand, (∀ n, x ≠ .byte n) →
    decode (.hostop 0x09#8 [x]) = .error .operandType ∧
    (∀ y : Operand,
      decode (.hostop 0x01#8 [x, y]) = .error .operandType ∧
      decode (.hostop 0x04#8 [x, y]) = .error .operandType ∧
      decode (.hostop 0x07#8 [x, y]) = .error .operandType) ∧
    ∀ k : Nat, k < 256 → decode (.hostop 0x01#8 [.byte k, x]) = .error .operandType) ∧
  -- no payload where one is taken
  (∀ (x : Operand) (k : Nat), (∀ p, x ≠ .payload p) → k < 256 →
    decode (.hostop 0x04#8 [.byte k, x]) = .error .operandType ∧
    decode (.hostop 0x07#8 [.byte k, x]) = .error .operandType) ∧
  -- no number where a percent, a temperature, a duration or a speed is taken
  (∀ x : Operand, (∀ h, x ≠ .num h) →
    decode (.hostop 0x02#8 [x]) = .error .operandType ∧
    decode (.hostop 0x03#8 [x]) = .error .operandType ∧
    decode (.hostop 0x08#8 [x]) = .error .operandType ∧
    decode (.hostop 0x0A#8 [.mode (some .manual), x]) = .error .operandType) ∧
  -- no telemetry value, at any of the six positions of AGG_POWER
  (∀ (vs : List TelemetryValue) (x : Operand) (rest : List Operand),
    vs.length + 1 + rest.length = 6 → (∀ v, x ≠ .tel v) →
    decode (.hostop 0x0C#8 (vs.map Operand.tel ++ x :: rest)) =
      .error (if x = .num .nonFinite then .nonFinite else .operandType)) ∧
  -- a NaN or an infinity
  decode (.hostop 0x02#8 [.num .nonFinite]) = .error .nonFinite ∧
  decode (.hostop 0x03#8 [.num .nonFinite]) = .error .nonFinite ∧
  decode (.hostop 0x08#8 [.num .nonFinite]) = .error .nonFinite ∧
  decode (.hostop 0x0A#8 [.mode (some .manual), .num .nonFinite]) = .error .nonFinite ∧
  (∀ q : Rat, q < 0 → decode (.hostop 0x08#8 [.num (.finite q)]) = .error .negativeDuration) ∧
  -- SET_MODE: no mode, an unknown mode, the two wrong shapes
  (∀ x : Operand, (∀ m, x ≠ .mode m) →
    decode (.hostop 0x0A#8 [x]) = .error .operandType ∧
    ∀ y : Operand, decode (.hostop 0x0A#8 [x, y]) = .error .operandType) ∧
  decode (.hostop 0x0A#8 [.mode none]) = .error .unknownMode ∧
  (∀ x : Operand, decode (.hostop 0x0A#8 [.mode none, x]) = .error .unknownMode) ∧
  decode (.hostop 0x0A#8 [.mode (some .manual)]) = .error .speedMissing ∧
  (∀ (m : FanMode) (x : Operand), m ≠ .manual →
    decode (.hostop 0x0A#8 [.mode (some m), x]) = .error .speedNotTaken) ∧
  -- the wrong number of operands; SET_MODE takes one or two
  (∀ (op : Opcode) (operands : List Operand), operands.length ≠ (zeroOperands op).length →
    (op = .setMode → operands.length ≠ 2) →
    decode (.hostop op.opsel operands) = .error .operandCount) ∧
  -- a wire payload of no command: exactly one that no padding with zeros makes equal to a command
  ∀ p : List Byte, decode (.wire p) = .error .undefinedCommand ↔
    ∀ m n : Nat,
      (∀ b, p ++ zeros m ≠ [0x31#8, b] ++ zeros n) ∧
      (∀ param1 param2, p ++ zeros m ≠ [0x30#8, 0x41#8, param1, param2] ++ zeros n) ∧
      p ++ zeros m ≠ [0x30#8, 0x42#8, 0x19#8, 0x00#8, 0x00#8, 0x00#8] ++ zeros n

/-- R70: a reader of a whole CommandFrame gets the wire command back, and a wire payload that equals
a command but for trailing zeros is that command (the payload's own zeros: log 16, and log 33 where
they would not fit a frame). -/
def Obligations.FrameReaderRecoversCommand : Prop :=
  (∀ (c : Cfg) (rid b param1 param2 : Byte), 7 ≤ c.frameLen →
    readFrameCommand (frameOf c rid (payloadReadParam b)) = .ok (.cmdReadParam b) ∧
    readFrameCommand (frameOf c rid (payloadFanMode param1 param2)) =
      .ok (.cmdSetFanMode param1 param2) ∧
    readFrameCommand (frameOf c rid payloadRgbOff) = .ok .cmdRgbOff) ∧
  ∀ (p : List Byte) (m n : Nat),
    (∀ b, p ++ zeros m = [0x31#8, b] ++ zeros n → decode (.wire p) = .ok (.cmdReadParam b)) ∧
    (∀ param1 param2, p ++ zeros m = [0x30#8, 0x41#8, param1, param2] ++ zeros n →
      decode (.wire p) = .ok (.cmdSetFanMode param1 param2)) ∧
    (p ++ zeros m = [0x30#8, 0x42#8, 0x19#8, 0x00#8, 0x00#8, 0x00#8] ++ zeros n →
      decode (.wire p) = .ok .cmdRgbOff)

/-- R70, R173: payloads that differ only in trailing 0x00 bytes give identical frames. -/
def Obligations.TrailingZerosGiveSameFrame : Prop :=
  ∀ (c : Cfg) (rid : Byte) (p : List Byte) (n : Nat), 1 + p.length + n ≤ c.frameLen →
    frameOf c rid (p ++ zeros n) = frameOf c rid p

/-- R75, R109: words written out from the spec's tables decode to the rows they stand for. That a
selector's operands are zeros is the model's choice (log 13), the order of a word's bytes its
reading of the table (log 15). -/
def Obligations.SpecWordsDecode : Prop :=
  decodeTableWord 8 0x01 = some (.decode16 0x00#8 0x00#8) ∧
  decodeTableWord 8 0x05 = some .openTransport ∧
  decodeTableWord 8 0x0D = some .loopStart ∧
  decodeTableWord 8 0x0F = none ∧
  decodeTableWord 16 0x313A = some (.cmdReadParam 0x3A#8) ∧
  decodeTableWord 32 0x30410436 = some (.cmdSetFanMode 0x04#8 0x36#8) ∧
  decodeTableWord 48 0x304219000000 = some .cmdRgbOff

/-! ### CODEC -/

/-- R61: the exponent of an F16 word, by cases on `s` and as the 5-bit two's-complement integer
`v[15:11] - 32 * v[15]`, in -16..15. -/
def Obligations.F16ExponentIsTwosComplement : Prop :=
  ∀ v : U16,
    (f16Sign v = 0 → f16Exponent v = (f16Magnitude v : Int)) ∧
    (f16Sign v = 1 → f16Exponent v = (f16Magnitude v : Int) - 16) ∧
    f16Exponent v = ((v.toNat / 2 ^ 11 : Nat) : Int) - 32 * ((v.toNat / 2 ^ 15 : Nat) : Int) ∧
    -16 ≤ f16Exponent v ∧ f16Exponent v ≤ 15

/-- R63, R81: DECODE16 from the bits of its two bytes: `s = hi[7]`, `m = hi[6:3]`,
`f = hi[2:0] * 256 + lo`; the value is `2^e * f`, exact. -/
def Obligations.Decode16IsScaledFraction : Prop :=
  ∀ lo hi : Byte,
    decode16 lo hi =
      (2 : Rat) ^ (((hi.toNat / 8 % 16 : Nat) : Int) - 16 * ((hi.toNat / 128 : Nat) : Int)) *
        ((hi.toNat % 8 * 256 + lo.toNat : Nat) : Rat)

/-- R83: the range of DECODE16, its least non-zero value, and its granularity. -/
def Obligations.Decode16RangeAndGranularity : Prop :=
  ∀ lo hi : Byte,
    0 ≤ decode16 lo hi ∧ decode16 lo hi ≤ 67076096 ∧
    (decode16 lo hi ≠ 0 → 1 / 65536 ≤ decode16 lo hi) ∧
    (∃ k : Nat, decode16 lo hi = (k : Rat) / 65536) ∧
    (0 ≤ f16Exponent (f16Word lo hi) → ∃ n : Nat, decode16 lo hi = (n : Rat))

/-- R88: range, breakpoints and monotonicity of ENCPCT; every value of 8..99 is taken on a
non-empty interval; the result fits one unsigned byte. -/
def Obligations.EncpctBreakpointsAndMonotone : Prop :=
  (∀ p : Rat, (encpct p = 0 ∨ (8 ≤ encpct p ∧ encpct p ≤ 100)) ∧
    ((encpctByte p).toNat : Int) = encpct p) ∧
  (∀ p : Rat, p ≤ 0 → encpct p = 0) ∧
  (∀ p : Rat, 0 < p → p < 1 → encpct p = 8) ∧
  (∀ (p : Rat) (n : Int), 9 ≤ n → n ≤ 99 →
    1 + 99 * ((n : Rat) - 9) / 91 ≤ p → p < 1 + 99 * ((n : Rat) - 8) / 91 → encpct p = n) ∧
  (∀ p : Rat, 100 ≤ p → encpct p = 100) ∧
  (∀ p q : Rat, p ≤ q → encpct p ≤ encpct q) ∧
  (∀ n : Int, 8 ≤ n → n ≤ 99 →
    ∃ a b : Rat, a < b ∧ ∀ p : Rat, a < p → p < b → encpct p = n)

/-- R121: the clamps and the line of TEMP2PCT, its endpoints, its range and its monotonicity, for
every legal record. -/
def Obligations.Temp2pctClampsAndInterpolates : Prop :=
  ∀ c : Cfg, c.Legal →
    (∀ t, t < c.minTemp → temp2pct c t = c.minFan) ∧
    (∀ t, c.maxTemp < t → temp2pct c t = c.maxFan) ∧
    (∀ t, c.minTemp ≤ t → t ≤ c.maxTemp → temp2pct c t =
      c.minFan + (t - c.minTemp) * (c.maxFan - c.minFan) / (c.maxTemp - c.minTemp)) ∧
    temp2pct c c.minTemp = c.minFan ∧ temp2pct c c.maxTemp = c.maxFan ∧
    (∀ t, c.minFan ≤ temp2pct c t ∧ temp2pct c t ≤ c.maxFan) ∧
    (∀ t u, t ≤ u → temp2pct c t ≤ temp2pct c u)

/-- R125: with the source's thresholds, the manual parameter of the loop is in 26..54, 26 up to
37 degrees and 54 from 59 degrees. -/
def Obligations.ActiveParameterRange : Prop :=
  ∀ (rid : Byte) (d1 d2 : Duration) (t : Rat),
    26 ≤ encpct (temp2pct (Cfg.withDefaults rid d1 d2) t) ∧
    encpct (temp2pct (Cfg.withDefaults rid d1 d2) t) ≤ 54 ∧
    (t ≤ 37 → encpct (temp2pct (Cfg.withDefaults rid d1 d2) t) = 26) ∧
    (59 ≤ t → encpct (temp2pct (Cfg.withDefaults rid d1 d2) t) = 54)

/-- R122, R123: the two tests of CTRL_NEXT exclude each other; the open band never changes the
state; the two sides fix it; two opposite transitions are a whole band apart; temperatures that
stay above the lower threshold never leave Active and below the upper one never leave Passive. -/
def Obligations.HysteresisProperties : Prop :=
  ∀ c : Cfg, c.Legal →
    (∀ (a : Bool) (t : Rat), ¬ ((a = false ∧ c.minTemp ≤ t) ∧
      (a = true ∧ t ≤ c.minTemp - c.passiveDelta))) ∧
    (∀ (a : Bool) (t : Rat), c.minTemp - c.passiveDelta < t → t < c.minTemp →
      ctrlNext c a t = a) ∧
    (∀ (a : Bool) (t : Rat), c.minTemp ≤ t → ctrlNext c a t = true) ∧
    (∀ (a : Bool) (t : Rat), t ≤ c.minTemp - c.passiveDelta → ctrlNext c a t = false) ∧
    (∀ t u : Rat, ctrlNext c false t = true → ctrlNext c true u = false →
      u + c.passiveDelta ≤ t) ∧
    (∀ ts : List Rat, (∀ t ∈ ts, c.minTemp - c.passiveDelta < t) →
      ts.foldl (ctrlNext c) true = true) ∧
    (∀ ts : List Rat, (∀ t ∈ ts, t < c.minTemp) → ts.foldl (ctrlNext c) false = false)

/-- R81, R93: DECODE16 completes in one step in IDLE and every C_* phase; only the history
changes. -/
def Obligations.Decode16Completes : Prop :=
  ∀ (s : State) (lo hi : Byte), (s.phase = .idle ∨ s.phase.isCycle = true) →
    exec (.decode16 lo hi) s = .next { s with hist := s.hist ++ [.done .decode16 .ok (.rational
      ((2 : Rat) ^ (((hi.toNat / 8 % 16 : Nat) : Int) - 16 * ((hi.toNat / 128 : Nat) : Int)) *
        ((hi.toNat % 8 * 256 + lo.toNat : Nat) : Rat)))] }

/-- R86, R87, R93: ENCPCT completes with the clamps first, then the floored formula. -/
def Obligations.EncpctCompletes : Prop :=
  ∀ (s : State) (p : Rat), (s.phase = .idle ∨ s.phase.isCycle = true) →
    (p ≤ 0 → exec (.encpct p) s =
      .next { s with hist := s.hist ++ [.done .encpct .ok (.integer 0)] }) ∧
    (100 ≤ p → exec (.encpct p) s =
      .next { s with hist := s.hist ++ [.done .encpct .ok (.integer 100)] }) ∧
    (0 < p → p < 100 → ∃ k : Int, (k : Rat) ≤ (p - 1) / 99 * 91 ∧ (p - 1) / 99 * 91 < k + 1 ∧
      exec (.encpct p) s =
        .next { s with hist := s.hist ++ [.done .encpct .ok (.integer (9 + k))] })

/-- R121, R93: TEMP2PCT completes with the clamped or interpolated percent. -/
def Obligations.Temp2pctCompletes : Prop :=
  ∀ (s : State) (t : Rat), (s.phase = .idle ∨ s.phase.isCycle = true) →
    exec (.temp2pct t) s = .next { s with hist := s.hist ++ [.done .temp2pct .ok (.rational
      (if t < s.cfg.minTemp then s.cfg.minFan
       else if s.cfg.maxTemp < t then s.cfg.maxFan
       else s.cfg.minFan + (t - s.cfg.minTemp) * (s.cfg.maxFan - s.cfg.minFan) /
         (s.cfg.maxTemp - s.cfg.minTemp)))] }

/-- R90, R91, R93: AGG_POWER completes with the sum of the rails whose two operands are defined;
all undefined gives 0. -/
def Obligations.AggPowerCompletes : Prop :=
  ∀ (s : State) (v12 v5 v33 i12 i5 i33 : TelemetryValue),
    (s.phase = .idle ∨ s.phase.isCycle = true) →
    exec (.aggPower v12 v5 v33 i12 i5 i33) s =
      .next { s with hist := s.hist ++ [.done .aggPower .ok (.rational
        (([(v12, i12), (v5, i5), (v33, i33)].filterMap fun r =>
          match r with
          | (.val a, .val b) => some (a * b)
          | (.val _, .undef) => none
          | (.undef, _) => none).sum))] }

/-- R81, R86, R90, R121: the frame of the pure operations, whatever the phase: a next state changes
the history and the refusal mark at most; every byte of FR reads as before. -/
def Obligations.PureOperationsFrame : Prop :=
  ∀ (s t : State) (i : Instr),
    ((∃ lo hi, i = .decode16 lo hi) ∨ (∃ p, i = .encpct p) ∨ (∃ q, i = .temp2pct q) ∨
      ∃ a b c d e f, i = .aggPower a b c d e f) →
    exec i s = .next t →
    t = { s with hist := t.hist, refused := t.refused } ∧ ∀ a, t.frRead a = s.frRead a

/-! ### FRAMER -/

/-- R95, R96: BUILDFRAME completes for every payload that fits: the result and FR hold the report
id, the payload, then 0x00 up to FRAME_LEN; nothing else changes. -/
def Obligations.BuildframeCompletes : Prop :=
  ∀ (s : State) (rid : Byte) (p : List Byte), (s.phase = .idle ∨ s.phase.isCycle = true) →
    1 + p.length ≤ s.cfg.frameLen →
    ∃ (t : State) (f : List Byte), exec (.buildframe rid p) s = .next t ∧
      f.length = s.cfg.frameLen ∧ f[0]? = some rid ∧
      (∀ i, i < p.length → f[1 + i]? = p[i]?) ∧
      (∀ j, p.length + 1 ≤ j → j < s.cfg.frameLen → f[j]? = some 0x00#8) ∧
      (∀ a, a < s.cfg.frameLen → t.frRead a = f[a]?) ∧
      (∀ a, s.cfg.frameLen ≤ a → t.fr.read a = s.fr.read a) ∧
      t = { s with fr := t.fr, hist := s.hist ++ [.done .buildframe .ok (.frame f)] }

/-- R95, R144, R147: a BUILDFRAME payload that does not fit takes the fault in one step: code and
offending length recorded, FAULT event, window, timer and pending operation cleared, transport
released, HALTED; no DONE; every other field as before. -/
def Obligations.OversizedBuildframeTakesFault : Prop :=
  ∀ (s : State) (rid : Byte) (p : List Byte), (s.phase = .idle ∨ s.phase.isCycle = true) →
    s.cfg.frameLen < 1 + p.length →
    exec (.buildframe rid p) s = .next { s with
      fault := some (.frameEncodingError, p.length)
      hist := s.hist ++ [.fault .frameEncodingError]
      rxOpen := false, rxBuf := [], tmr := none, hPend := none, owner := .none
      phase := .halted }

/-- R108, R144, R147: a send whose frame does not fit takes the fault whatever the channel would
answer: no answer is drawn, no TX event is emitted, and nothing else of the operation happens. So
does a SEND, and, under the FRAME_LEN below 7 that R7 admits, each command of the host and each
send of the loop: that their rules, written for FRAME_LEN 65, give the fault there is the model's
reading (log 26), and so is that the rest of the operation is left out (log 23). -/
def Obligations.SendFaultWinsOverNoChannel : Prop :=
  (∀ (s : State) (rid : Byte) (p : List Byte), s.phase = .idle → s.owner = .host →
    s.cfg.frameLen < 1 + p.length →
    exec (.send rid p) s = .next { s with
      fault := some (.frameEncodingError, p.length)
      hist := s.hist ++ [.fault .frameEncodingError]
      rxOpen := false, rxBuf := [], tmr := none, hPend := none, owner := .none
      phase := .halted }) ∧
  (∀ (s : State) (i : Instr) (n : Nat), s.phase = .idle → s.owner = .host →
    i.wellFormed = true → s.cfg.frameLen < 1 + n →
    ((((∃ b, i = .getTelemetry b) ∨ ∃ b, i = .cmdReadParam b) ∧ n = 2) ∨
      (((∃ m q, i = .setMode m q) ∨ ∃ a b, i = .cmdSetFanMode a b) ∧ n = 4) ∨
      ((i = .rgboff ∨ i = .cmdRgbOff) ∧ n = 6)) →
    exec i s = .next { s with
      fault := some (.frameEncodingError, n)
      hist := s.hist ++ [.fault .frameEncodingError]
      rxOpen := false, rxBuf := [], tmr := none, hPend := none, owner := .none
      phase := .halted }) ∧
  ∀ (s : State) (n : Nat) (ms : List Move), s.cfg.Legal → s.owner = .loop →
    s.env.moves = .ctrl :: ms → s.cfg.frameLen < 1 + n →
    (((s.phase = .cRtSend ∨ s.phase = .cRrSend) ∧ n = 2) ∨
      (s.phase = .cModeSend ∧ (∃ t, s.tCur = .val t) ∧ n = 4)) →
    step s = .next { s with
      fault := some (.frameEncodingError, n)
      hist := s.hist ++ [.fault .frameEncodingError]
      rxOpen := false, rxBuf := [], tmr := none, hPend := none, owner := .none
      phase := .halted
      env := { s.env with moves := ms } }

/-- R97: OPEN completes: owner HOST and OK when the device is found, else DEVICE_NOT_FOUND with
the owner left NONE. -/
def Obligations.OpenCompletes : Prop :=
  ∀ s : State, s.phase = .idle → s.owner = .none →
    exec .openTransport s = .next { s with
      owner := if s.found then .host else .none
      hist := s.hist ++ [.done .openTransport (if s.found then .ok else .deviceNotFound) .none]
      env := { s.env with answers := s.env.answers.tail, asked := s.env.asked + 1 } }

/-- R98: CLOSE in IDLE with owner NONE or HOST leaves owner NONE and returns OK; with the loop as
owner, or outside IDLE, it is refused, which is a next state (log 9). -/
def Obligations.CloseReleasesOrIsRefused : Prop :=
  ∀ s : State,
    (s.phase = .idle → s.owner = .none ∨ s.owner = .host →
      exec .closeTransport s = .next { s with
        owner := .none, hist := s.hist ++ [.done .closeTransport .ok .none] }) ∧
    (s.phase ≠ .halted → s.phase ≠ .idle ∨ s.owner = .loop →
      exec .closeTransport s = .next { s with refused := true })

/-- R95, R99: SEND by the owning host completes: with a channel the frame leaves (one TX event, the
bytes FR then holds) and the status is OK; without one there is no TX event and the status is
TRANSPORT_UNAVAILABLE. No window opens and nothing else changes. That FR holds the built frame
without a channel too is the model's reading (log 25), where R107 says that a failed SEND "changes
no other state". -/
def Obligations.SendCompletes : Prop :=
  ∀ (s : State) (rid : Byte) (p : List Byte), s.phase = .idle → s.owner = .host →
    1 + p.length ≤ s.cfg.frameLen →
    ∃ t : State, exec (.send rid p) s = .next t ∧
      t = { s with
        fr := t.fr
        hist := s.hist ++ (if s.channel
          then [.tx (rid :: (p ++ zeros (s.cfg.frameLen - 1 - p.length))),
            .done .send .ok .none]
          else [.done .send .transportUnavailable .none])
        env := { s.env with answers := s.env.answers.tail, asked := s.env.asked + 1 } } ∧
      (∀ a, a < s.cfg.frameLen →
        t.frRead a = (rid :: (p ++ zeros (s.cfg.frameLen - 1 - p.length)))[a]?) ∧
      ∀ a, s.cfg.frameLen ≤ a → t.fr.read a = s.fr.read a

/-- R100, R101: READRESP by the owning host opens a READ window of the given duration and waits. -/
def Obligations.ReadrespOpensWindow : Prop :=
  ∀ (s : State) (d : Duration), s.phase = .idle → s.owner = .host →
    exec (.readresp d) s = .next { s with
      rxBuf := [], rxOpen := true, rxKind := .read, tmr := some (.win, d)
      hPend := some .readresp, phase := .hWait }

/-- R102: an RX arrival is appended in order to an open window, up to RX_CAP, and discarded when no
window is open, in every phase; it changes no other state and emits no event. -/
def Obligations.ArrivalAppendsOrIsDiscarded : Prop :=
  ∀ (s : State) (chunk : List Byte) (ms : List Move), s.cfg.Legal →
    s.env.moves = .device chunk :: ms →
    (s.rxOpen = true → step s = .next { s with
      rxBuf := (match s.cfg.rxCap with
        | some n => (s.rxBuf ++ chunk).take n
        | none => s.rxBuf ++ chunk)
      env := { s.env with moves := ms } }) ∧
    (s.rxOpen = false → step s = .next { s with env := { s.env with moves := ms } })

/-- R105, R106: a window collects every chunk delivered while it is open, in arrival order, nothing
added, nothing removed but what is beyond RX_CAP, whatever command it follows. -/
def Obligations.WindowCollectsAllArrivals : Prop :=
  ∀ (chunks : List (List Byte)) (s : State) (ms : List Move), s.cfg.Legal →
    (∀ n, s.cfg.rxCap = some n → s.rxBuf.length ≤ n) → s.rxOpen = true →
    s.env.moves = chunks.map .device ++ ms →
    core.run chunks.length s = .next { s with
      rxBuf := (match s.cfg.rxCap with
        | some n => (s.rxBuf ++ chunks.flatten).take n
        | none => s.rxBuf ++ chunks.flatten)
      env := { s.env with moves := ms } }

/-- R100, R104, R113, R116, R118: at the window close in H_WAIT the pending operation completes:
WIN event with the collected bytes; READRESP returns them; GET_TELEMETRY decodes them; SET_MODE
and RGBOFF discard them. -/
def Obligations.HostWindowCloseCompletes : Prop :=
  ∀ (s : State) (d : Duration) (ms : List Move), s.cfg.Legal → s.phase = .hWait →
    s.tmr = some (.win, d) → s.env.moves = .timer :: ms →
    ∀ (p : Pending), s.hPend = some p →
      step s = .next { s with
        rxOpen := false, rxBuf := [], tmr := none, hPend := none, phase := .idle
        hist := s.hist ++ .win s.rxKind s.rxBuf ::
          (match p with
            | .readresp => [.done .readresp .ok (.bytes s.rxBuf)]
            | .getTelemetry b =>
              [.tel b (respDecode s.cfg s.rxBuf),
               .done .getTelemetry
                (if respDecode s.cfg s.rxBuf = .undef then .decodeUndefined else .ok)
                (.telemetry (respDecode s.cfg s.rxBuf))]
            | .setMode => [.done .setMode .ok .none]
            | .rgboff => [.done .rgboff .ok .none])
        env := { s.env with moves := ms } }

/-! ### CMDP -/

/-- R114: RESP_DECODE decodes the two bytes when enough were collected, gives Undef otherwise, and
looks at nothing else. -/
def Obligations.RespDecodeReadsTwoBytes : Prop :=
  ∀ (c : Cfg) (bytes : List Byte), c.Legal →
    (bytes.length < c.respMinLen → respDecode c bytes = .undef) ∧
    (c.respMinLen ≤ bytes.length →
      ∃ lo hi : Byte, bytes[c.respLoOff]? = some lo ∧ bytes[c.respHiOff]? = some hi ∧
        respDecode c bytes = .val (decode16 lo hi)) ∧
    ∀ other : List Byte, c.respMinLen ≤ bytes.length → c.respMinLen ≤ other.length →
      other[c.respLoOff]? = bytes[c.respLoOff]? → other[c.respHiOff]? = bytes[c.respHiOff]? →
      respDecode c other = respDecode c bytes

/-- R113: GET_TELEMETRY by the owning host, issue step: with a channel the READ_PARAM frame leaves,
a READ window of T_WIN_READ opens and the operation waits; without one it completes at once with
Undef and TRANSPORT_UNAVAILABLE and opens no window. FR holds the built frame either way (without a
channel: the model's reading, log 25). -/
def Obligations.GetTelemetryIssues : Prop :=
  ∀ (s : State) (b : Byte), s.phase = .idle → s.owner = .host → 3 ≤ s.cfg.frameLen →
    ∃ t : State, exec (.getTelemetry b) s = .next t ∧
      (∀ a, a < s.cfg.frameLen → t.frRead a =
        (s.cfg.reportId :: 0x31#8 :: b :: zeros (s.cfg.frameLen - 3))[a]?) ∧
      (∀ a, s.cfg.frameLen ≤ a → t.fr.read a = s.fr.read a) ∧
      (s.channel = true → t = { s with
        fr := t.fr
        hist := s.hist ++
          [.tx (s.cfg.reportId :: 0x31#8 :: b :: zeros (s.cfg.frameLen - 3))]
        rxBuf := [], rxOpen := true, rxKind := .read, tmr := some (.win, s.cfg.tWinRead)
        hPend := some (.getTelemetry b), phase := .hWait
        env := { s.env with answers := s.env.answers.tail, asked := s.env.asked + 1 } }) ∧
      (s.channel = false → t = { s with
        fr := t.fr
        hist := s.hist ++ [.tel b .undef,
          .done .getTelemetry .transportUnavailable (.telemetry .undef)]
        env := { s.env with answers := s.env.answers.tail, asked := s.env.asked + 1 } })

/-- R116, R117: SET_MODE by the owning host, issue step: the set-fan-mode frame with the mode's
parameter-1 byte, and ENCPCT(speed) for manual or 0x00 otherwise; then a CMD window of T_WIN_CMD,
or TRANSPORT_UNAVAILABLE with no window. FR holds the built frame either way (without a channel:
the model's reading, log 25). -/
def Obligations.SetModeIssues : Prop :=
  ∀ (s : State) (m : FanMode) (speed : Option Rat), s.phase = .idle → s.owner = .host →
    5 ≤ s.cfg.frameLen → (speed.isSome = true ↔ m = .manual) →
    ∃ t : State, exec (.setMode m speed) s = .next t ∧
      (∀ a, a < s.cfg.frameLen → t.frRead a = (s.cfg.reportId :: 0x30#8 :: 0x41#8 ::
        (match m with
          | .silent => 0x01#8
          | .performance => 0x02#8
          | .passive => 0x03#8
          | .manual => 0x04#8) ::
        (match speed with
          | some q => encpctByte q
          | none => 0x00#8) :: zeros (s.cfg.frameLen - 5))[a]?) ∧
      (∀ a, s.cfg.frameLen ≤ a → t.fr.read a = s.fr.read a) ∧
      (s.channel = true → t = { s with
        fr := t.fr
        hist := s.hist ++ [.tx (s.cfg.reportId :: 0x30#8 :: 0x41#8 ::
          (match m with
            | .silent => 0x01#8
            | .performance => 0x02#8
            | .passive => 0x03#8
            | .manual => 0x04#8) ::
          (match speed with
            | some q => encpctByte q
            | none => 0x00#8) :: zeros (s.cfg.frameLen - 5))]
        rxBuf := [], rxOpen := true, rxKind := .cmd, tmr := some (.win, s.cfg.tWinCmd)
        hPend := some .setMode, phase := .hWait
        env := { s.env with answers := s.env.answers.tail, asked := s.env.asked + 1 } }) ∧
      (s.channel = false → t = { s with
        fr := t.fr
        hist := s.hist ++ [.done .setMode .transportUnavailable .none]
        env := { s.env with answers := s.env.answers.tail, asked := s.env.asked + 1 } })

/-- R72, R76, R116: a SET_MODE of the wrong shape (manual with no speed, or a speed with another
mode) is refused: the mark is set and nothing else changes (a next state: log 9). -/
def Obligations.IllFormedSetModeRefused : Prop :=
  ∀ (s : State) (m : FanMode) (speed : Option Rat), s.phase ≠ .halted →
    ((m = .manual ∧ speed = none) ∨ (m ≠ .manual ∧ speed.isSome = true)) →
    exec (.setMode m speed) s = .next { s with refused := true }

/-- R118: RGBOFF by the owning host, issue step: the constant frame, then a CMD window of T_WIN_CMD,
or TRANSPORT_UNAVAILABLE with no window. FR holds the built frame either way (without a channel:
the model's reading, log 25). -/
def Obligations.RgbOffIssues : Prop :=
  ∀ s : State, s.phase = .idle → s.owner = .host → 7 ≤ s.cfg.frameLen →
    ∃ t : State, exec .rgboff s = .next t ∧
      (∀ a, a < s.cfg.frameLen → t.frRead a =
        (s.cfg.reportId :: 0x30#8 :: 0x42#8 :: 0x19#8 :: zeros (s.cfg.frameLen - 4))[a]?) ∧
      (∀ a, s.cfg.frameLen ≤ a → t.fr.read a = s.fr.read a) ∧
      (s.channel = true → t = { s with
        fr := t.fr
        hist := s.hist ++ [.tx (s.cfg.reportId :: 0x30#8 :: 0x42#8 :: 0x19#8 ::
          zeros (s.cfg.frameLen - 4))]
        rxBuf := [], rxOpen := true, rxKind := .cmd, tmr := some (.win, s.cfg.tWinCmd)
        hPend := some .rgboff, phase := .hWait
        env := { s.env with answers := s.env.answers.tail, asked := s.env.asked + 1 } }) ∧
      (s.channel = false → t = { s with
        fr := t.fr
        hist := s.hist ++ [.done .rgboff .transportUnavailable .none]
        env := { s.env with answers := s.env.answers.tail, asked := s.env.asked + 1 } })

/-- R110, R111, R112: a wire command is its transfer: the host SEND of its payload under REPORT_ID.
That a wire command issued by itself completes as a SEND is the model's choice (log 14); that FR
holds the built frame without a channel is its reading (log 25). -/
def Obligations.WireCommandsTransfer : Prop :=
  ∀ (s : State) (b param1 param2 : Byte), s.phase = .idle → s.owner = .host →
    ∀ (i : Instr) (body : List Byte),
    ((i = .cmdReadParam b ∧ 3 ≤ s.cfg.frameLen ∧
        body = 0x31#8 :: b :: zeros (s.cfg.frameLen - 3)) ∨
      (i = .cmdSetFanMode param1 param2 ∧ 5 ≤ s.cfg.frameLen ∧
        body = 0x30#8 :: 0x41#8 :: param1 :: param2 :: zeros (s.cfg.frameLen - 5)) ∨
      (i = .cmdRgbOff ∧ 7 ≤ s.cfg.frameLen ∧
        body = 0x30#8 :: 0x42#8 :: 0x19#8 :: zeros (s.cfg.frameLen - 4))) →
    ∃ t : State, exec i s = .next t ∧
      t = { s with
        fr := t.fr
        hist := s.hist ++ (if s.channel
          then [.tx (s.cfg.reportId :: body), .done .send .ok .none]
          else [.done .send .transportUnavailable .none])
        env := { s.env with answers := s.env.answers.tail, asked := s.env.asked + 1 } } ∧
      (∀ a, a < s.cfg.frameLen → t.frRead a = (s.cfg.reportId :: body)[a]?) ∧
      ∀ a, s.cfg.frameLen ≤ a → t.fr.read a = s.fr.read a

/-- R99, R113, R116, R118: the frame of every operation that sends: the configuration, the
controller registers and the schedule are unchanged; FR changes only at the offsets of one frame;
the refusal mark stays set; where no fault is taken the owner stays. -/
def Obligations.SendingOperationsFrame : Prop :=
  ∀ (s t : State) (i : Instr),
    ((∃ r p, i = .send r p) ∨ (∃ b, i = .getTelemetry b) ∨ (∃ m q, i = .setMode m q) ∨
      i = .rgboff ∨ (∃ b, i = .cmdReadParam b) ∨ (∃ a b, i = .cmdSetFanMode a b) ∨
      i = .cmdRgbOff) →
    exec i s = .next t →
    t.cfg = s.cfg ∧ t.fanActive = s.fanActive ∧ t.tCur = s.tCur ∧ t.rCur = s.rCur ∧
    t.env.moves = s.env.moves ∧ (s.refused = true → t.refused = true) ∧
    (∀ a, s.cfg.frameLen ≤ a → t.fr.read a = s.fr.read a) ∧
    ((t.owner = s.owner ∧ t.fault = s.fault) ∨ (t.phase = .halted ∧ t.owner = .none))

/-- R97, R98, R100, R134, R135: the frame of the operations that only take, use or release the
transport: configuration, fault register and every byte of FR are unchanged; `fan_active` and the
telemetry registers change by LOOP_START only. -/
def Obligations.TransportControlFrame : Prop :=
  ∀ (s t : State) (i : Instr),
    (i = .openTransport ∨ i = .closeTransport ∨ (∃ d, i = .readresp d) ∨ i = .loopStart ∨
      i = .loopStop) →
    exec i s = .next t →
    t.cfg = s.cfg ∧ t.fault = s.fault ∧ t.fr = s.fr ∧ t.env.moves = s.env.moves ∧
    (s.refused = true → t.refused = true) ∧
    (i ≠ .loopStart → t.fanActive = s.fanActive ∧ t.tCur = s.tCur ∧ t.rCur = s.rCur) ∧
    ((∀ d, i ≠ .readresp d) → t.rxKind = s.rxKind)

/-! ### CTRL -/

/-- R134: LOOP_START completes: with the device found the loop owns the transport, Passive, at the
start of a cycle; else DEVICE_NOT_FOUND, IDLE, owner NONE. -/
def Obligations.LoopStartCompletes : Prop :=
  ∀ s : State, s.phase = .idle → s.owner = .none →
    (s.found = true → exec .loopStart s = .next { s with
      owner := .loop, fanActive := false, tCur := .undef, rCur := .undef, phase := .cRtSend
      hist := s.hist ++ [.done .loopStart .ok .none]
      env := { s.env with answers := s.env.answers.tail, asked := s.env.asked + 1 } }) ∧
    (s.found = false → exec .loopStart s = .next { s with
      hist := s.hist ++ [.done .loopStart .deviceNotFound .none]
      env := { s.env with answers := s.env.answers.tail, asked := s.env.asked + 1 } })

/-- R135: LOOP_STOP in every phase but HALTED abandons the window with no WIN event, clears timer
and pending operation, releases the transport, and leaves `fan_active`. In HALTED it has no step,
which the model answers with the fault `.halted` (log 10). INTR is LOOP_STOP (log 29). -/
def Obligations.LoopStopReleases : Prop :=
  ∀ s : State,
    (s.phase ≠ .halted → exec .loopStop s = .next { s with
      rxOpen := false
      rxBuf := if s.rxOpen then [] else s.rxBuf
      tmr := none, hPend := none, owner := .none, phase := .idle
      hist := s.hist ++ [.stopped, .done .loopStop .interruptedByUser .none] }) ∧
    (s.phase = .halted → exec .loopStop s = .fault .halted) ∧
    ∀ ms, s.cfg.Legal → s.env.moves = .intr :: ms → step s = exec .loopStop (s.withMoves ms)

/-- R127: the two read-send phases: on success the READ_PARAM frame leaves and a READ window opens;
on failure the register is Undef, TEL and CYCLE_ERR are recorded, and the cycle goes on. FR holds
the built frame either way (without a channel: the model's reading, log 25). -/
def Obligations.ReadSendPhases : Prop :=
  ∀ (s : State) (ms : List Move), s.cfg.Legal → s.owner = .loop → 3 ≤ s.cfg.frameLen →
    s.env.moves = .ctrl :: ms →
    ∀ (pid : Byte) (wait after : Phase),
    ((s.phase = .cRtSend ∧ pid = s.cfg.pidTemp ∧ wait = .cRtWait ∧ after = .cRrSend) ∨
      (s.phase = .cRrSend ∧ pid = s.cfg.pidRpm ∧ wait = .cRrWait ∧ after = .cDecide)) →
    ∃ t : State, step s = .next t ∧
      (∀ a, a < s.cfg.frameLen → t.frRead a =
        (s.cfg.reportId :: 0x31#8 :: pid :: zeros (s.cfg.frameLen - 3))[a]?) ∧
      (∀ a, s.cfg.frameLen ≤ a → t.fr.read a = s.fr.read a) ∧
      (s.channel = true → t = { s with
        fr := t.fr
        hist := s.hist ++
          [.tx (s.cfg.reportId :: 0x31#8 :: pid :: zeros (s.cfg.frameLen - 3))]
        rxBuf := [], rxOpen := true, rxKind := .read, tmr := some (.win, s.cfg.tWinRead)
        phase := wait
        env := { moves := ms, answers := s.env.answers.tail, asked := s.env.asked + 1 } }) ∧
      (s.channel = false → t = { s with
        fr := t.fr
        hist := s.hist ++ [.tel pid .undef, .cycleErr .transportUnavailable]
        tCur := if s.phase = .cRtSend then .undef else s.tCur
        rCur := if s.phase = .cRrSend then .undef else s.rCur
        phase := after
        env := { moves := ms, answers := s.env.answers.tail, asked := s.env.asked + 1 } })

/-- R128: the read-wait phases hold for CTRL (its move changes the schedule only: log 7); at the window close the decoded value goes to the
register of the read, a TEL event follows the WIN event, and the cycle goes on, temperature before
RPM. -/
def Obligations.ReadWaitPhases : Prop :=
  ∀ (s : State) (ms : List Move), s.cfg.Legal →
    (s.phase = .cRtWait ∨ s.phase = .cRrWait) →
    (s.env.moves = .ctrl :: ms →
      step s = .next { s with env := { s.env with moves := ms } }) ∧
    ∀ d, s.tmr = some (.win, d) → s.env.moves = .timer :: ms →
      step s = .next { s with
        rxOpen := false, rxBuf := [], tmr := none
        hist := s.hist ++ [.win s.rxKind s.rxBuf,
          .tel (if s.phase = .cRtWait then s.cfg.pidTemp else s.cfg.pidRpm)
            (respDecode s.cfg s.rxBuf)]
        tCur := if s.phase = .cRtWait then respDecode s.cfg s.rxBuf else s.tCur
        rCur := if s.phase = .cRrWait then respDecode s.cfg s.rxBuf else s.rCur
        phase := if s.phase = .cRtWait then .cRrSend else .cDecide
        env := { s.env with moves := ms } }

/-- R122, R129: C_DECIDE skips on Undef, then on a temperature strictly below the floor, leaving
`fan_active` and entering the sleep; otherwise it applies the transition rule and goes on to send
the mode. -/
def Obligations.DecideSkipsOrTransitions : Prop :=
  ∀ (s : State) (ms : List Move), s.cfg.Legal → s.owner = .loop → s.phase = .cDecide →
    s.env.moves = .ctrl :: ms →
    (s.tCur = .undef → step s = .next { s with
      hist := s.hist ++ [.skip .undef]
      tmr := some (.sleep, s.cfg.pollInterval), phase := .cSleep
      env := { s.env with moves := ms } }) ∧
    ∀ t, s.tCur = .val t →
      (t < s.cfg.sanityFloor → step s = .next { s with
        hist := s.hist ++ [.skip .belowFloor]
        tmr := some (.sleep, s.cfg.pollInterval), phase := .cSleep
        env := { s.env with moves := ms } }) ∧
      (s.cfg.sanityFloor ≤ t → step s = .next { s with
        fanActive :=
          if s.fanActive = false ∧ s.cfg.minTemp ≤ t then true
          else if s.fanActive = true ∧ t ≤ s.cfg.minTemp - s.cfg.passiveDelta then false
          else s.fanActive
        phase := .cModeSend
        env := { s.env with moves := ms } })

/-- R124, R130, R131: C_MODE_SEND sends manual with ENCPCT(TEMP2PCT(t)) when Active and passive
with 0x00 when Passive; then a CMD window, whose bytes are discarded at its close, or CYCLE_ERR;
both ways into the sleep, whose expiry starts the next cycle. FR holds the built frame either way
(without a channel: the model's reading, log 25). -/
def Obligations.ModeSendAndSleep : Prop :=
  ∀ (s : State) (ms : List Move), s.cfg.Legal →
    (∀ temp, s.owner = .loop → s.phase = .cModeSend → s.tCur = .val temp →
      5 ≤ s.cfg.frameLen → s.env.moves = .ctrl :: ms →
      ∃ t : State, step s = .next t ∧
        (∀ a, a < s.cfg.frameLen → t.frRead a = (s.cfg.reportId :: 0x30#8 :: 0x41#8 ::
          (if s.fanActive then 0x04#8 else 0x03#8) ::
          (if s.fanActive then encpctByte (temp2pct s.cfg temp) else 0x00#8) ::
          zeros (s.cfg.frameLen - 5))[a]?) ∧
        (∀ a, s.cfg.frameLen ≤ a → t.fr.read a = s.fr.read a) ∧
        (s.channel = true → t = { s with
          fr := t.fr
          hist := s.hist ++ [.tx (s.cfg.reportId :: 0x30#8 :: 0x41#8 ::
            (if s.fanActive then 0x04#8 else 0x03#8) ::
            (if s.fanActive then encpctByte (temp2pct s.cfg temp) else 0x00#8) ::
            zeros (s.cfg.frameLen - 5))]
          rxBuf := [], rxOpen := true, rxKind := .cmd, tmr := some (.win, s.cfg.tWinCmd)
          phase := .cModeWait
          env := { moves := ms, answers := s.env.answers.tail, asked := s.env.asked + 1 } }) ∧
        (s.channel = false → t = { s with
          fr := t.fr
          hist := s.hist ++ [.cycleErr .transportUnavailable]
          tmr := some (.sleep, s.cfg.pollInterval), phase := .cSleep
          env := { moves := ms, answers := s.env.answers.tail, asked := s.env.asked + 1 } })) ∧
    (∀ d, s.phase = .cModeWait → s.tmr = some (.win, d) → s.env.moves = .timer :: ms →
      step s = .next { s with
        rxOpen := false, rxBuf := []
        hist := s.hist ++ [.win s.rxKind s.rxBuf]
        tmr := some (.sleep, s.cfg.pollInterval), phase := .cSleep
        env := { s.env with moves := ms } }) ∧
    ∀ d, s.phase = .cSleep → s.tmr = some (.sleep, d) → s.env.moves = .timer :: ms →
      step s = .next { s with
        tmr := none, phase := .cRtSend, env := { s.env with moves := ms } }

/-- R126, R131, R153: CTRL holds in every phase that gives it no step, C_MODE_WAIT and C_SLEEP among
them, and whenever the loop does not own the transport; TIMER has no step while no timer is armed.
That such a move of the schedule is taken and changes nothing else is the model's choice
(log 7). -/
def Obligations.DisabledAgentsHold : Prop :=
  ∀ (s : State) (ms : List Move), s.cfg.Legal → s.phase ≠ .halted →
    ((s.owner ≠ .loop ∨ (s.phase ≠ .cRtSend ∧ s.phase ≠ .cRrSend ∧ s.phase ≠ .cDecide ∧
        s.phase ≠ .cModeSend)) →
      s.env.moves = .ctrl :: ms → step s = .next { s with env := { s.env with moves := ms } }) ∧
    (s.tmr = none → s.env.moves = .timer :: ms →
      step s = .next { s with env := { s.env with moves := ms } })

/-- R138: over any run of cycles in which every send succeeds and every timer expires, whatever the
bytes of the windows, the history, the frames sent and `fan_active` are those of the pure
controller applied to the decoded temperatures; the loop is back at the start of a cycle. -/
def Obligations.LoopFollowsPureController : Prop :=
  ∀ (xs : List CycleInput) (s : State) (ms : List Move),
    s.cfg.Legal → 5 ≤ s.cfg.frameLen → s.phase = .cRtSend → s.owner = .loop →
    s.env.moves = loopMoves s.cfg xs ++ ms →
    s.env.answers = List.replicate (3 * xs.length) true →
    ∃ t : State, core.run (loopMoves s.cfg xs).length s = .next t ∧
      t.phase = .cRtSend ∧ t.owner = .loop ∧ t.cfg = s.cfg ∧ t.env.moves = ms ∧
      t.fanActive = loopActive s.cfg s.fanActive xs ∧
      t.hist = s.hist ++ loopEvents s.cfg s.fanActive xs

/-! ### Refusals, faults, steps -/

/-- R74, R94, R172: what is refused. In H_WAIT every instruction but LOOP_STOP; in IDLE every
transport operation by a non-owner; in a C_* phase every transport operation. The mark is set and
nothing else changes (a next state: log 9); the wire commands are sends of HOST (log 14). -/
def Obligations.OwnershipRefusals : Prop :=
  (∀ (s : State) (i : Instr), s.phase = .hWait → i ≠ .loopStop →
    exec i s = .next { s with refused := true }) ∧
  (∀ (s : State) (i : Instr), s.phase = .idle →
    (((i = .openTransport ∨ i = .loopStart) ∧ s.owner ≠ .none) ∨
      (((∃ r p, i = .send r p) ∨ (∃ d, i = .readresp d) ∨ (∃ b, i = .getTelemetry b) ∨
        (∃ m q, i = .setMode m q) ∨ i = .rgboff ∨ (∃ b, i = .cmdReadParam b) ∨
        (∃ a b, i = .cmdSetFanMode a b) ∨ i = .cmdRgbOff) ∧ s.owner ≠ .host)) →
    exec i s = .next { s with refused := true }) ∧
  ∀ (s : State) (i : Instr), s.phase.isCycle = true →
    (i = .openTransport ∨ i = .closeTransport ∨ i = .loopStart ∨
      (∃ r p, i = .send r p) ∨ (∃ d, i = .readresp d) ∨ (∃ b, i = .getTelemetry b) ∨
      (∃ m q, i = .setMode m q) ∨ i = .rgboff ∨ (∃ b, i = .cmdReadParam b) ∨
      (∃ a b, i = .cmdSetFanMode a b) ∨ i = .cmdRgbOff) →
    exec i s = .next { s with refused := true }

/-- R29, R93, R147: in HALTED no instruction has a step and no HOST, CTRL or TIMER move nor an empty
schedule has one, which the model answers with the fault `.halted` (log 10); a DEVICE chunk is
discarded and leaves everything else. -/
def Obligations.HaltedIsQuiescent : Prop :=
  ∀ s : State, s.phase = .halted →
    (∀ i, exec i s = .fault .halted) ∧
    (s.cfg.Legal →
      (s.env.moves = [] → step s = .fault .halted) ∧
      ∀ m ms, s.env.moves = m :: ms →
        ((∀ chunk, m ≠ .device chunk) → step s = .fault .halted) ∧
        (s.rxOpen = false → ∀ chunk, m = .device chunk →
          step s = .next { s with env := { s.env with moves := ms } }))

/-- R5, R14, R74: when HOST's move offers what decodes to an instruction, the step is that
instruction executed on the state whose schedule has moved on; this is how exec's statements reach
a run. What a wire payload decodes to is the model's choice in log 14 and log 33. -/
def Obligations.StepRunsDecodedInstruction : Prop :=
  ∀ (s : State) (o : Offer) (ms : List Move) (i : Instr), s.cfg.Legal →
    s.env.moves = .offer o :: ms → decode o = .ok i →
    step s = exec i { s with env := { s.env with moves := ms } }

/-- R166, I19: a configuration record that breaks a constraint of R7 runs nothing: the model refuses
every step (log 3). -/
def Obligations.IllegalConfigurationRunsNothing : Prop :=
  ∀ s : State,
    (s.cfg.passiveDelta ≤ 0 ∨ s.cfg.maxTemp ≤ s.cfg.minTemp ∨ s.cfg.minFan < 0 ∨
      s.cfg.maxFan < s.cfg.minFan ∨ 100 < s.cfg.maxFan ∨ s.cfg.respMinLen ≤ s.cfg.respHiOff ∨
      s.cfg.respMinLen ≤ s.cfg.respLoOff ∨ s.cfg.frameLen = 0) →
    step s = .refused .illegalConfig

/-! ### Reset and whole-machine rules -/

/-- R163: what reset leaves, for a block instantiated with any record; no step leaves HALTED. -/
def Obligations.ResetValues : Prop :=
  (∀ c : Cfg,
    (State.resetWith c).phase = .idle ∧ (State.resetWith c).fanActive = false ∧
    (State.resetWith c).tCur = .undef ∧ (State.resetWith c).rCur = .undef ∧
    (State.resetWith c).owner = .none ∧ (State.resetWith c).rxOpen = false ∧
    (State.resetWith c).rxKind = .read ∧ (State.resetWith c).rxBuf = [] ∧
    (State.resetWith c).tmr = none ∧ (State.resetWith c).hPend = none ∧
    (State.resetWith c).fault = none ∧ (State.resetWith c).refused = false ∧
    (State.resetWith c).hist = [] ∧ (State.resetWith c).cfg = c) ∧
  State.reset = State.resetWith State.reset.cfg ∧
  ∀ s t : State, s.phase = .halted → step s = .next t → t.phase = .halted

/-- R36: the invariants hold after reset. -/
def Obligations.ResetEstablishesInvariants : Prop :=
  ∀ c : Cfg, Inv (State.resetWith c) ∧ Inv2 (State.resetWith c) ∧ WholeFrames (State.resetWith c)

/-- R36 (a) to (f): every step of every agent keeps the state invariants. -/
def Obligations.EveryStepKeepsStateInvariants : Prop :=
  ∀ s t : State, Inv s → step s = .next t → Inv t

/-- R26, R41, R101, R102, R129: every step keeps the empty buffer outside a window, the defined
temperature before a mode send, the kind of every window (the loop's by its phase, the host's by
its pending operation), and FR in its canonical form within its offsets. -/
def Obligations.EveryStepKeepsBuffersAndFrame : Prop :=
  ∀ s t : State, Inv s → Inv2 s → step s = .next t → Inv2 t

/-- R40, R64: every frame ever transmitted is one whole frame of FRAME_LEN bytes. -/
def Obligations.EveryFrameIsWhole : Prop :=
  ∀ s t : State, WholeFrames s → step s = .next t → WholeFrames t

/-- R21, R136, R165: `fan_active` is written only by a C_DECIDE step of the loop, as CTRL_NEXT of a
temperature that passed the filter, and by LOOP_START, to Passive. -/
def Obligations.FanActiveHasTwoWriters : Prop :=
  ∀ s t : State, step s = .next t →
    t.fanActive = s.fanActive ∨
    (s.phase = .cDecide ∧ s.owner = .loop ∧ t.phase = .cModeSend ∧
      ∃ q, s.tCur = .val q ∧ s.cfg.sanityFloor ≤ q ∧
        t.fanActive = ctrlNext s.cfg s.fanActive q) ∨
    (s.phase = .idle ∧ s.owner = .none ∧ t.phase = .cRtSend ∧ t.owner = .loop ∧
      t.fanActive = false)

/-- R29, R30, R31, R33: no step writes the configuration; the history only grows; the refusal mark
and the fault, once set, stay. -/
def Obligations.ConfigurationFixedAndMarksSticky : Prop :=
  ∀ s t : State, Inv s → step s = .next t →
    t.cfg = s.cfg ∧ s.hist <+: t.hist ∧ (s.refused = true → t.refused = true) ∧
    (s.fault ≠ none → t.fault = s.fault)

/-- R94, R172: a frame leaves only in a step of the transport's owner: the host in IDLE, or the loop
in one of its three send phases. -/
def Obligations.OnlyTheOwnerTransmits : Prop :=
  ∀ (s t : State) (es : List Event) (f : List Byte),
    step s = .next t → Added s t es → Event.tx f ∈ es →
    (s.owner = .host ∧ s.phase = .idle) ∨
    (s.owner = .loop ∧ (s.phase = .cRtSend ∨ s.phase = .cRrSend ∨ s.phase = .cModeSend))

/-- R96, R144, R174: while HOST keeps its duties and a frame holds every command of the block, no
step takes the fault: the block stays out of HALTED with its fault register as it was, and the
duties still hold of the rest of the schedule. How the duties read over a schedule is the model's
(log 32). -/
def Obligations.DutifulHostNeverFaults : Prop :=
  ∀ (s t : State) (expectedId : Byte), 7 ≤ s.cfg.frameLen → s.phase ≠ .halted →
    HostDuties s.cfg expectedId s.env.moves → step s = .next t →
    t.phase ≠ .halted ∧ t.fault = s.fault ∧ HostDuties t.cfg expectedId t.env.moves

/-- R24, R138: the fan RPM has no influence: two states that differ in `r_cur` alone step to states
that differ in `r_cur` at most. -/
def Obligations.RpmHasNoInfluence : Prop :=
  ∀ (s t : State) (r : TelemetryValue), step s = .next t →
    ∃ r', step { s with rCur := r } = .next { t with rCur := r' }

/-- R31: "no rule's behaviour depends on it": with any other history before it a step does the same
and appends the same events. -/
def Obligations.HistoryIsObservationOnly : Prop :=
  ∀ (s : State) (h : List Event),
    (∀ t, step s = .next t → ∃ es, Added s t es ∧
      step { s with hist := h } = .next { t with hist := h ++ es }) ∧
    (∀ r, step s = .fault r → step { s with hist := h } = .fault r) ∧
    ∀ r, step s = .refused r → step { s with hist := h } = .refused r
end

