-- ==== Sys2Proof/Laws/Memory.lean ====
section
/-! SUPPORT. The laws of a byte-addressed space: the canonical form is kept by every operation, and
a read gives what was last written. -/

namespace Sys2Proof.Machine

namespace MemoryLaws

theorem wf_nil : Memory.wf [] = true := rfl

/-- The canonical form, one cell at a time: the first cell is not the unlisted byte, every later
address is higher, and the rest is canonical. -/
theorem wf_cons_iff (k : Nat) (b : Byte) (m : Memory) :
    Memory.wf ((k, b) :: m) = true ↔
      b ≠ Memory.unlisted ∧ (∀ c ∈ m, k < c.1) ∧ Memory.wf m = true := by
  induction m generalizing k b with
  | nil => simp [Memory.wf]
  | cons c m ih =>
    obtain ⟨k', b'⟩ := c
    have step : Memory.wf ((k, b) :: (k', b') :: m) =
        (decide (k < k') && (b != Memory.unlisted) && Memory.wf ((k', b') :: m)) := rfl
    rw [step]
    constructor
    · intro h
      simp only [Bool.and_eq_true, decide_eq_true_eq, bne_iff_ne, ne_eq] at h
      refine ⟨h.1.2, ?_, h.2⟩
      intro c hc
      rcases List.mem_cons.mp hc with rfl | hc
      · exact h.1.1
      · exact lt_trans h.1.1 (((ih k' b').mp h.2).2.1 c hc)
    · rintro ⟨hb, hk, hm⟩
      simp only [Bool.and_eq_true, decide_eq_true_eq, bne_iff_ne, ne_eq]
      exact ⟨⟨hk (k', b') (List.mem_cons_self ..), hb⟩, hm⟩

theorem mem_clear {m : Memory} {a : Nat} {c : Host.Cell} :
    c ∈ m.clear a ↔ c ∈ m ∧ c.1 ≠ a := by
  induction m with
  | nil => simp [Memory.clear]
  | cons d m ih =>
    obtain ⟨k, v⟩ := d
    simp only [Memory.clear]
    split
    · rename_i hk
      rw [ih]
      constructor
      · rintro ⟨h, hne⟩
        exact ⟨List.mem_cons_of_mem _ h, hne⟩
      · rintro ⟨h, hne⟩
        rcases List.mem_cons.mp h with rfl | h
        · exact absurd hk hne
        · exact ⟨h, hne⟩
    · rename_i hk
      rw [List.mem_cons, List.mem_cons, ih]
      constructor
      · rintro (rfl | ⟨h, hne⟩)
        · exact ⟨.inl rfl, hk⟩
        · exact ⟨.inr h, hne⟩
      · rintro ⟨rfl | h, hne⟩
        · exact .inl rfl
        · exact .inr ⟨h, hne⟩

theorem mem_insert {m : Memory} {a : Nat} {b : Byte} {c : Host.Cell} :
    c ∈ m.insert a b ↔ c = (a, b) ∨ c ∈ m := by
  induction m with
  | nil => simp [Memory.insert]
  | cons d m ih =>
    obtain ⟨k, v⟩ := d
    simp only [Memory.insert]
    split
    · simp
    · rw [List.mem_cons, List.mem_cons, ih]
      tauto

theorem clear_wf {m : Memory} (h : m.wf = true) (a : Nat) : (m.clear a).wf = true := by
  induction m with
  | nil => rfl
  | cons d m ih =>
    obtain ⟨k, v⟩ := d
    obtain ⟨hv, hk, hm⟩ := (wf_cons_iff k v m).mp h
    simp only [Memory.clear]
    split
    · exact ih hm
    · exact (wf_cons_iff k v _).mpr ⟨hv, fun c hc => hk c (mem_clear.mp hc).1, ih hm⟩

theorem insert_wf {m : Memory} (h : m.wf = true) {a : Nat} {b : Byte} (hb : b ≠ Memory.unlisted)
    (ha : ∀ c ∈ m, c.1 ≠ a) : (m.insert a b).wf = true := by
  induction m with
  | nil => exact (wf_cons_iff a b []).mpr ⟨hb, by simp, rfl⟩
  | cons d m ih =>
    obtain ⟨k, v⟩ := d
    obtain ⟨hv, hk, hm⟩ := (wf_cons_iff k v m).mp h
    have hka : k ≠ a := ha (k, v) (List.mem_cons_self ..)
    simp only [Memory.insert]
    split
    · rename_i hlt
      refine (wf_cons_iff a b _).mpr ⟨hb, ?_, h⟩
      intro c hc
      rcases List.mem_cons.mp hc with rfl | hc
      · exact hlt
      · exact lt_trans hlt (hk c hc)
    · rename_i hnlt
      refine (wf_cons_iff k v _).mpr ⟨hv, ?_, ih hm fun c hc => ha c (List.mem_cons_of_mem _ hc)⟩
      intro c hc
      rcases mem_insert.mp hc with rfl | hc
      · change k < a
        omega
      · exact hk c hc

/-- A write keeps the canonical form. -/
theorem write_wf {m : Memory} (h : m.wf = true) (a : Nat) (b : Byte) :
    (m.write a b).wf = true := by
  unfold Memory.write
  split
  · exact clear_wf h a
  · exact insert_wf (clear_wf h a) ‹_› fun c hc => (mem_clear.mp hc).2

theorem writeList_wf {m : Memory} (h : m.wf = true) (a : Nat) (bs : List Byte) :
    (m.writeList a bs).wf = true := by
  induction bs generalizing m a with
  | nil => exact h
  | cons b bs ih => exact ih (write_wf h a b) (a + 1)

theorem read_clear (m : Memory) (a i : Nat) :
    (m.clear a).read i = if i = a then Memory.unlisted else m.read i := by
  induction m with
  | nil => simp [Memory.clear, Memory.read]
  | cons d m ih =>
    obtain ⟨k, v⟩ := d
    by_cases hk : k = a
    · subst hk
      simp only [Memory.clear, if_true, ih, Memory.read]
      by_cases hi : i = k
      · simp [hi]
      · have : ¬ k = i := fun h => hi h.symm
        simp [hi, this]
    · simp only [Memory.clear, if_neg hk, Memory.read, ih]
      by_cases hi : i = a
      · subst hi
        simp [hk]
      · simp [hi]

theorem read_insert {m : Memory} {a : Nat} (ha : ∀ c ∈ m, c.1 ≠ a) (b : Byte) (i : Nat) :
    (m.insert a b).read i = if i = a then b else m.read i := by
  induction m with
  | nil =>
    by_cases hi : i = a
    · simp [Memory.insert, Memory.read, hi]
    · have : ¬ a = i := fun h => hi h.symm
      simp [Memory.insert, Memory.read, hi, this]
  | cons d m ih =>
    obtain ⟨k, v⟩ := d
    have hka : k ≠ a := ha (k, v) (List.mem_cons_self ..)
    have ih := ih fun c hc => ha c (List.mem_cons_of_mem _ hc)
    simp only [Memory.insert]
    split
    · by_cases hi : i = a
      · simp [Memory.read, hi]
      · have : ¬ a = i := fun h => hi h.symm
        simp [Memory.read, hi, this]
    · simp only [Memory.read, ih]
      by_cases hi : i = a
      · subst hi
        simp [hka]
      · simp [hi]

/-- A read after a write: the byte written at its address, every other byte as before. -/
theorem read_write (m : Memory) (a i : Nat) (b : Byte) :
    (m.write a b).read i = if i = a then b else m.read i := by
  unfold Memory.write
  split
  · rename_i hb
    rw [read_clear, hb]
  · rw [read_insert (fun c hc => (mem_clear.mp hc).2), read_clear]
    by_cases hi : i = a <;> simp [hi]

/-- A read after a list was written: the list's byte inside it, every other byte as before. -/
theorem read_writeList (m : Memory) (a i : Nat) (bs : List Byte) :
    (m.writeList a bs).read i =
      if a ≤ i ∧ i < a + bs.length then bs.getD (i - a) 0#8 else m.read i := by
  induction bs generalizing m a with
  | nil =>
    have : ¬ (a ≤ i ∧ i < a + ([] : List Byte).length) := by simp
    simp only [if_neg this]
    rfl
  | cons b bs ih =>
    have step := ih (m.write a b) (a + 1)
    simp only [Memory.writeList]
    rw [step, read_write]
    simp only [List.length_cons]
    by_cases h1 : i = a
    · subst h1
      simp
    · by_cases h2 : a + 1 ≤ i ∧ i < a + 1 + bs.length
      · obtain ⟨j, rfl⟩ : ∃ j, i = a + 1 + j := ⟨i - (a + 1), by omega⟩
        rw [if_pos h2, if_pos (by omega)]
        have e1 : a + 1 + j - (a + 1) = j := by omega
        have e2 : a + 1 + j - a = j + 1 := by omega
        rw [e1, e2]
        simp
      · rw [if_neg h2, if_neg h1, if_neg (by omega)]

theorem readList_length (m : Memory) (a n : Nat) : (m.readList a n).length = n := by
  induction n generalizing a with
  | zero => rfl
  | succ n ih => simp [Memory.readList, ih]

theorem readList_getD (m : Memory) (a n i : Nat) (h : i < n) :
    (m.readList a n).getD i 0#8 = m.read (a + i) := by
  induction n generalizing a i with
  | zero => omega
  | succ n ih =>
    cases i with
    | zero => simp [Memory.readList]
    | succ i =>
      have := ih (a + 1) i (by omega)
      simp only [Memory.readList, List.getD_cons_succ, this]
      congr 1
      omega

/-- Reading back a list just written gives the list. -/
theorem readList_writeList (m : Memory) (bs : List Byte) :
    (m.writeList 0 bs).readList 0 bs.length = bs := by
  refine List.ext_getElem (readList_length _ _ _) ?_
  intro i h1 h2
  have hr := readList_getD (m.writeList 0 bs) 0 bs.length i h2
  have hw := read_writeList m 0 (0 + i) bs
  rw [if_pos (by omega)] at hw
  rw [hw] at hr
  simpa [List.getD_eq_getElem, h1, h2, readList_length] using hr

end MemoryLaws

end Sys2Proof.Machine
end

