-- ==== Sys2Proof/Laws/State.lean ====
section
/-! SUPPORT. One lemma per field of State per named operation, so that no proof unfolds a record
update. -/

namespace Sys2Proof.Machine

/-! ### emit: `emit` appends to the history (R31) -/

@[simp] theorem State.emit_cfg (s : State) (ev : Event) : (s.emit ev).cfg = s.cfg := rfl
@[simp] theorem State.emit_phase (s : State) (ev : Event) : (s.emit ev).phase = s.phase := rfl
@[simp] theorem State.emit_fanActive (s : State) (ev : Event) :
    (s.emit ev).fanActive = s.fanActive := rfl
@[simp] theorem State.emit_tCur (s : State) (ev : Event) : (s.emit ev).tCur = s.tCur := rfl
@[simp] theorem State.emit_rCur (s : State) (ev : Event) : (s.emit ev).rCur = s.rCur := rfl
@[simp] theorem State.emit_owner (s : State) (ev : Event) : (s.emit ev).owner = s.owner := rfl
@[simp] theorem State.emit_rxOpen (s : State) (ev : Event) : (s.emit ev).rxOpen = s.rxOpen := rfl
@[simp] theorem State.emit_rxKind (s : State) (ev : Event) : (s.emit ev).rxKind = s.rxKind := rfl
@[simp] theorem State.emit_rxBuf (s : State) (ev : Event) : (s.emit ev).rxBuf = s.rxBuf := rfl
@[simp] theorem State.emit_fr (s : State) (ev : Event) : (s.emit ev).fr = s.fr := rfl
@[simp] theorem State.emit_tmr (s : State) (ev : Event) : (s.emit ev).tmr = s.tmr := rfl
@[simp] theorem State.emit_hPend (s : State) (ev : Event) : (s.emit ev).hPend = s.hPend := rfl
@[simp] theorem State.emit_fault (s : State) (ev : Event) : (s.emit ev).fault = s.fault := rfl
@[simp] theorem State.emit_refused (s : State) (ev : Event) : (s.emit ev).refused = s.refused := rfl
@[simp] theorem State.emit_hist (s : State) (ev : Event) : (s.emit ev).hist = s.hist ++ [ev] := rfl
@[simp] theorem State.emit_env (s : State) (ev : Event) : (s.emit ev).env = s.env := rfl

/-! ### done: a completion is one DONE event (R77) -/

@[simp] theorem State.done_cfg (s : State) (op : Opcode) (code : Status) (r : Result) :
    (s.done op code r).cfg = s.cfg := rfl
@[simp] theorem State.done_phase (s : State) (op : Opcode) (code : Status) (r : Result) :
    (s.done op code r).phase = s.phase := rfl
@[simp] theorem State.done_fanActive (s : State) (op : Opcode) (code : Status) (r : Result) :
    (s.done op code r).fanActive = s.fanActive := rfl
@[simp] theorem State.done_tCur (s : State) (op : Opcode) (code : Status) (r : Result) :
    (s.done op code r).tCur = s.tCur := rfl
@[simp] theorem State.done_rCur (s : State) (op : Opcode) (code : Status) (r : Result) :
    (s.done op code r).rCur = s.rCur := rfl
@[simp] theorem State.done_owner (s : State) (op : Opcode) (code : Status) (r : Result) :
    (s.done op code r).owner = s.owner := rfl
@[simp] theorem State.done_rxOpen (s : State) (op : Opcode) (code : Status) (r : Result) :
    (s.done op code r).rxOpen = s.rxOpen := rfl
@[simp] theorem State.done_rxKind (s : State) (op : Opcode) (code : Status) (r : Result) :
    (s.done op code r).rxKind = s.rxKind := rfl
@[simp] theorem State.done_rxBuf (s : State) (op : Opcode) (code : Status) (r : Result) :
    (s.done op code r).rxBuf = s.rxBuf := rfl
@[simp] theorem State.done_fr (s : State) (op : Opcode) (code : Status) (r : Result) :
    (s.done op code r).fr = s.fr := rfl
@[simp] theorem State.done_tmr (s : State) (op : Opcode) (code : Status) (r : Result) :
    (s.done op code r).tmr = s.tmr := rfl
@[simp] theorem State.done_hPend (s : State) (op : Opcode) (code : Status) (r : Result) :
    (s.done op code r).hPend = s.hPend := rfl
@[simp] theorem State.done_fault (s : State) (op : Opcode) (code : Status) (r : Result) :
    (s.done op code r).fault = s.fault := rfl
@[simp] theorem State.done_refused (s : State) (op : Opcode) (code : Status) (r : Result) :
    (s.done op code r).refused = s.refused := rfl
@[simp] theorem State.done_hist (s : State) (op : Opcode) (code : Status) (r : Result) :
    (s.done op code r).hist = s.hist ++ [.done op code r] := rfl
@[simp] theorem State.done_env (s : State) (op : Opcode) (code : Status) (r : Result) :
    (s.done op code r).env = s.env := rfl

/-! ### writeFrame: BUILDFRAME's writes (R95) -/

@[simp] theorem State.writeFrame_cfg (s : State) (f : List Byte) :
    (s.writeFrame f).cfg = s.cfg := rfl
@[simp] theorem State.writeFrame_phase (s : State) (f : List Byte) :
    (s.writeFrame f).phase = s.phase := rfl
@[simp] theorem State.writeFrame_fanActive (s : State) (f : List Byte) :
    (s.writeFrame f).fanActive = s.fanActive := rfl
@[simp] theorem State.writeFrame_tCur (s : State) (f : List Byte) :
    (s.writeFrame f).tCur = s.tCur := rfl
@[simp] theorem State.writeFrame_rCur (s : State) (f : List Byte) :
    (s.writeFrame f).rCur = s.rCur := rfl
@[simp] theorem State.writeFrame_owner (s : State) (f : List Byte) :
    (s.writeFrame f).owner = s.owner := rfl
@[simp] theorem State.writeFrame_rxOpen (s : State) (f : List Byte) :
    (s.writeFrame f).rxOpen = s.rxOpen := rfl
@[simp] theorem State.writeFrame_rxKind (s : State) (f : List Byte) :
    (s.writeFrame f).rxKind = s.rxKind := rfl
@[simp] theorem State.writeFrame_rxBuf (s : State) (f : List Byte) :
    (s.writeFrame f).rxBuf = s.rxBuf := rfl
@[simp] theorem State.writeFrame_fr (s : State) (f : List Byte) :
    (s.writeFrame f).fr = s.fr.writeList 0 f := rfl
@[simp] theorem State.writeFrame_tmr (s : State) (f : List Byte) :
    (s.writeFrame f).tmr = s.tmr := rfl
@[simp] theorem State.writeFrame_hPend (s : State) (f : List Byte) :
    (s.writeFrame f).hPend = s.hPend := rfl
@[simp] theorem State.writeFrame_fault (s : State) (f : List Byte) :
    (s.writeFrame f).fault = s.fault := rfl
@[simp] theorem State.writeFrame_refused (s : State) (f : List Byte) :
    (s.writeFrame f).refused = s.refused := rfl
@[simp] theorem State.writeFrame_hist (s : State) (f : List Byte) :
    (s.writeFrame f).hist = s.hist := rfl
@[simp] theorem State.writeFrame_env (s : State) (f : List Byte) :
    (s.writeFrame f).env = s.env := rfl

/-! ### timerStart: TimerStart (R153) -/

@[simp] theorem State.timerStart_cfg (s : State) (name : TimerName) (d : Duration) :
    (s.timerStart name d).cfg = s.cfg := rfl
@[simp] theorem State.timerStart_phase (s : State) (name : TimerName) (d : Duration) :
    (s.timerStart name d).phase = s.phase := rfl
@[simp] theorem State.timerStart_fanActive (s : State) (name : TimerName) (d : Duration) :
    (s.timerStart name d).fanActive = s.fanActive := rfl
@[simp] theorem State.timerStart_tCur (s : State) (name : TimerName) (d : Duration) :
    (s.timerStart name d).tCur = s.tCur := rfl
@[simp] theorem State.timerStart_rCur (s : State) (name : TimerName) (d : Duration) :
    (s.timerStart name d).rCur = s.rCur := rfl
@[simp] theorem State.timerStart_owner (s : State) (name : TimerName) (d : Duration) :
    (s.timerStart name d).owner = s.owner := rfl
@[simp] theorem State.timerStart_rxOpen (s : State) (name : TimerName) (d : Duration) :
    (s.timerStart name d).rxOpen = s.rxOpen := rfl
@[simp] theorem State.timerStart_rxKind (s : State) (name : TimerName) (d : Duration) :
    (s.timerStart name d).rxKind = s.rxKind := rfl
@[simp] theorem State.timerStart_rxBuf (s : State) (name : TimerName) (d : Duration) :
    (s.timerStart name d).rxBuf = s.rxBuf := rfl
@[simp] theorem State.timerStart_fr (s : State) (name : TimerName) (d : Duration) :
    (s.timerStart name d).fr = s.fr := rfl
@[simp] theorem State.timerStart_tmr (s : State) (name : TimerName) (d : Duration) :
    (s.timerStart name d).tmr = some (name, d) := rfl
@[simp] theorem State.timerStart_hPend (s : State) (name : TimerName) (d : Duration) :
    (s.timerStart name d).hPend = s.hPend := rfl
@[simp] theorem State.timerStart_fault (s : State) (name : TimerName) (d : Duration) :
    (s.timerStart name d).fault = s.fault := rfl
@[simp] theorem State.timerStart_refused (s : State) (name : TimerName) (d : Duration) :
    (s.timerStart name d).refused = s.refused := rfl
@[simp] theorem State.timerStart_hist (s : State) (name : TimerName) (d : Duration) :
    (s.timerStart name d).hist = s.hist := rfl
@[simp] theorem State.timerStart_env (s : State) (name : TimerName) (d : Duration) :
    (s.timerStart name d).env = s.env := rfl

/-! ### rxOpenWindow: RxOpen (R101) -/

@[simp] theorem State.rxOpenWindow_cfg (s : State) (kind : RxKind) (d : Duration) :
    (s.rxOpenWindow kind d).cfg = s.cfg := rfl
@[simp] theorem State.rxOpenWindow_phase (s : State) (kind : RxKind) (d : Duration) :
    (s.rxOpenWindow kind d).phase = s.phase := rfl
@[simp] theorem State.rxOpenWindow_fanActive (s : State) (kind : RxKind) (d : Duration) :
    (s.rxOpenWindow kind d).fanActive = s.fanActive := rfl
@[simp] theorem State.rxOpenWindow_tCur (s : State) (kind : RxKind) (d : Duration) :
    (s.rxOpenWindow kind d).tCur = s.tCur := rfl
@[simp] theorem State.rxOpenWindow_rCur (s : State) (kind : RxKind) (d : Duration) :
    (s.rxOpenWindow kind d).rCur = s.rCur := rfl
@[simp] theorem State.rxOpenWindow_owner (s : State) (kind : RxKind) (d : Duration) :
    (s.rxOpenWindow kind d).owner = s.owner := rfl
@[simp] theorem State.rxOpenWindow_rxOpen (s : State) (kind : RxKind) (d : Duration) :
    (s.rxOpenWindow kind d).rxOpen = true := rfl
@[simp] theorem State.rxOpenWindow_rxKind (s : State) (kind : RxKind) (d : Duration) :
    (s.rxOpenWindow kind d).rxKind = kind := rfl
@[simp] theorem State.rxOpenWindow_rxBuf (s : State) (kind : RxKind) (d : Duration) :
    (s.rxOpenWindow kind d).rxBuf = [] := rfl
@[simp] theorem State.rxOpenWindow_fr (s : State) (kind : RxKind) (d : Duration) :
    (s.rxOpenWindow kind d).fr = s.fr := rfl
@[simp] theorem State.rxOpenWindow_tmr (s : State) (kind : RxKind) (d : Duration) :
    (s.rxOpenWindow kind d).tmr = some (.win, d) := rfl
@[simp] theorem State.rxOpenWindow_hPend (s : State) (kind : RxKind) (d : Duration) :
    (s.rxOpenWindow kind d).hPend = s.hPend := rfl
@[simp] theorem State.rxOpenWindow_fault (s : State) (kind : RxKind) (d : Duration) :
    (s.rxOpenWindow kind d).fault = s.fault := rfl
@[simp] theorem State.rxOpenWindow_refused (s : State) (kind : RxKind) (d : Duration) :
    (s.rxOpenWindow kind d).refused = s.refused := rfl
@[simp] theorem State.rxOpenWindow_hist (s : State) (kind : RxKind) (d : Duration) :
    (s.rxOpenWindow kind d).hist = s.hist := rfl
@[simp] theorem State.rxOpenWindow_env (s : State) (kind : RxKind) (d : Duration) :
    (s.rxOpenWindow kind d).env = s.env := rfl

/-! ### rxClose: the sink part of RxClose (R104) -/

@[simp] theorem State.rxClose_cfg (s : State) : (s.rxClose).cfg = s.cfg := rfl
@[simp] theorem State.rxClose_phase (s : State) : (s.rxClose).phase = s.phase := rfl
@[simp] theorem State.rxClose_fanActive (s : State) : (s.rxClose).fanActive = s.fanActive := rfl
@[simp] theorem State.rxClose_tCur (s : State) : (s.rxClose).tCur = s.tCur := rfl
@[simp] theorem State.rxClose_rCur (s : State) : (s.rxClose).rCur = s.rCur := rfl
@[simp] theorem State.rxClose_owner (s : State) : (s.rxClose).owner = s.owner := rfl
@[simp] theorem State.rxClose_rxOpen (s : State) : (s.rxClose).rxOpen = false := rfl
@[simp] theorem State.rxClose_rxKind (s : State) : (s.rxClose).rxKind = s.rxKind := rfl
@[simp] theorem State.rxClose_rxBuf (s : State) : (s.rxClose).rxBuf = [] := rfl
@[simp] theorem State.rxClose_fr (s : State) : (s.rxClose).fr = s.fr := rfl
@[simp] theorem State.rxClose_tmr (s : State) : (s.rxClose).tmr = none := rfl
@[simp] theorem State.rxClose_hPend (s : State) : (s.rxClose).hPend = s.hPend := rfl
@[simp] theorem State.rxClose_fault (s : State) : (s.rxClose).fault = s.fault := rfl
@[simp] theorem State.rxClose_refused (s : State) : (s.rxClose).refused = s.refused := rfl
@[simp] theorem State.rxClose_hist (s : State) : (s.rxClose).hist = s.hist := rfl
@[simp] theorem State.rxClose_env (s : State) : (s.rxClose).env = s.env := rfl

/-! ### await: a host operation waits (R32) -/

@[simp] theorem State.await_cfg (s : State) (p : Pending) : (s.await p).cfg = s.cfg := rfl
@[simp] theorem State.await_phase (s : State) (p : Pending) : (s.await p).phase = .hWait := rfl
@[simp] theorem State.await_fanActive (s : State) (p : Pending) :
    (s.await p).fanActive = s.fanActive := rfl
@[simp] theorem State.await_tCur (s : State) (p : Pending) : (s.await p).tCur = s.tCur := rfl
@[simp] theorem State.await_rCur (s : State) (p : Pending) : (s.await p).rCur = s.rCur := rfl
@[simp] theorem State.await_owner (s : State) (p : Pending) : (s.await p).owner = s.owner := rfl
@[simp] theorem State.await_rxOpen (s : State) (p : Pending) : (s.await p).rxOpen = s.rxOpen := rfl
@[simp] theorem State.await_rxKind (s : State) (p : Pending) : (s.await p).rxKind = s.rxKind := rfl
@[simp] theorem State.await_rxBuf (s : State) (p : Pending) : (s.await p).rxBuf = s.rxBuf := rfl
@[simp] theorem State.await_fr (s : State) (p : Pending) : (s.await p).fr = s.fr := rfl
@[simp] theorem State.await_tmr (s : State) (p : Pending) : (s.await p).tmr = s.tmr := rfl
@[simp] theorem State.await_hPend (s : State) (p : Pending) : (s.await p).hPend = some p := rfl
@[simp] theorem State.await_fault (s : State) (p : Pending) : (s.await p).fault = s.fault := rfl
@[simp] theorem State.await_refused (s : State) (p : Pending) :
    (s.await p).refused = s.refused := rfl
@[simp] theorem State.await_hist (s : State) (p : Pending) : (s.await p).hist = s.hist := rfl
@[simp] theorem State.await_env (s : State) (p : Pending) : (s.await p).env = s.env := rfl

/-! ### resume: a pending operation completes (R104) -/

@[simp] theorem State.resume_cfg (s : State) : (s.resume).cfg = s.cfg := rfl
@[simp] theorem State.resume_phase (s : State) : (s.resume).phase = .idle := rfl
@[simp] theorem State.resume_fanActive (s : State) : (s.resume).fanActive = s.fanActive := rfl
@[simp] theorem State.resume_tCur (s : State) : (s.resume).tCur = s.tCur := rfl
@[simp] theorem State.resume_rCur (s : State) : (s.resume).rCur = s.rCur := rfl
@[simp] theorem State.resume_owner (s : State) : (s.resume).owner = s.owner := rfl
@[simp] theorem State.resume_rxOpen (s : State) : (s.resume).rxOpen = s.rxOpen := rfl
@[simp] theorem State.resume_rxKind (s : State) : (s.resume).rxKind = s.rxKind := rfl
@[simp] theorem State.resume_rxBuf (s : State) : (s.resume).rxBuf = s.rxBuf := rfl
@[simp] theorem State.resume_fr (s : State) : (s.resume).fr = s.fr := rfl
@[simp] theorem State.resume_tmr (s : State) : (s.resume).tmr = s.tmr := rfl
@[simp] theorem State.resume_hPend (s : State) : (s.resume).hPend = none := rfl
@[simp] theorem State.resume_fault (s : State) : (s.resume).fault = s.fault := rfl
@[simp] theorem State.resume_refused (s : State) : (s.resume).refused = s.refused := rfl
@[simp] theorem State.resume_hist (s : State) : (s.resume).hist = s.hist := rfl
@[simp] theorem State.resume_env (s : State) : (s.resume).env = s.env := rfl

/-! ### enterSleep: entering C_SLEEP (R131) -/

@[simp] theorem State.enterSleep_cfg (s : State) : (s.enterSleep).cfg = s.cfg := rfl
@[simp] theorem State.enterSleep_phase (s : State) : (s.enterSleep).phase = .cSleep := rfl
@[simp] theorem State.enterSleep_fanActive (s : State) :
    (s.enterSleep).fanActive = s.fanActive := rfl
@[simp] theorem State.enterSleep_tCur (s : State) : (s.enterSleep).tCur = s.tCur := rfl
@[simp] theorem State.enterSleep_rCur (s : State) : (s.enterSleep).rCur = s.rCur := rfl
@[simp] theorem State.enterSleep_owner (s : State) : (s.enterSleep).owner = s.owner := rfl
@[simp] theorem State.enterSleep_rxOpen (s : State) : (s.enterSleep).rxOpen = s.rxOpen := rfl
@[simp] theorem State.enterSleep_rxKind (s : State) : (s.enterSleep).rxKind = s.rxKind := rfl
@[simp] theorem State.enterSleep_rxBuf (s : State) : (s.enterSleep).rxBuf = s.rxBuf := rfl
@[simp] theorem State.enterSleep_fr (s : State) : (s.enterSleep).fr = s.fr := rfl
@[simp] theorem State.enterSleep_tmr (s : State) :
    (s.enterSleep).tmr = some (.sleep, s.cfg.pollInterval) := rfl
@[simp] theorem State.enterSleep_hPend (s : State) : (s.enterSleep).hPend = s.hPend := rfl
@[simp] theorem State.enterSleep_fault (s : State) : (s.enterSleep).fault = s.fault := rfl
@[simp] theorem State.enterSleep_refused (s : State) : (s.enterSleep).refused = s.refused := rfl
@[simp] theorem State.enterSleep_hist (s : State) : (s.enterSleep).hist = s.hist := rfl
@[simp] theorem State.enterSleep_env (s : State) : (s.enterSleep).env = s.env := rfl

/-! ### answered: a draw is consumed (log 8) -/

@[simp] theorem State.answered_cfg (s : State) : (s.answered).cfg = s.cfg := rfl
@[simp] theorem State.answered_phase (s : State) : (s.answered).phase = s.phase := rfl
@[simp] theorem State.answered_fanActive (s : State) : (s.answered).fanActive = s.fanActive := rfl
@[simp] theorem State.answered_tCur (s : State) : (s.answered).tCur = s.tCur := rfl
@[simp] theorem State.answered_rCur (s : State) : (s.answered).rCur = s.rCur := rfl
@[simp] theorem State.answered_owner (s : State) : (s.answered).owner = s.owner := rfl
@[simp] theorem State.answered_rxOpen (s : State) : (s.answered).rxOpen = s.rxOpen := rfl
@[simp] theorem State.answered_rxKind (s : State) : (s.answered).rxKind = s.rxKind := rfl
@[simp] theorem State.answered_rxBuf (s : State) : (s.answered).rxBuf = s.rxBuf := rfl
@[simp] theorem State.answered_fr (s : State) : (s.answered).fr = s.fr := rfl
@[simp] theorem State.answered_tmr (s : State) : (s.answered).tmr = s.tmr := rfl
@[simp] theorem State.answered_hPend (s : State) : (s.answered).hPend = s.hPend := rfl
@[simp] theorem State.answered_fault (s : State) : (s.answered).fault = s.fault := rfl
@[simp] theorem State.answered_refused (s : State) : (s.answered).refused = s.refused := rfl
@[simp] theorem State.answered_hist (s : State) : (s.answered).hist = s.hist := rfl
@[simp] theorem State.answered_env (s : State) :
    (s.answered).env = { s.env with answers := s.env.answers.tail, asked := s.env.asked + 1 } := rfl

/-! ### withMoves: the schedule advances (log 5) -/

@[simp] theorem State.withMoves_cfg (s : State) (ms : List Move) :
    (s.withMoves ms).cfg = s.cfg := rfl
@[simp] theorem State.withMoves_phase (s : State) (ms : List Move) :
    (s.withMoves ms).phase = s.phase := rfl
@[simp] theorem State.withMoves_fanActive (s : State) (ms : List Move) :
    (s.withMoves ms).fanActive = s.fanActive := rfl
@[simp] theorem State.withMoves_tCur (s : State) (ms : List Move) :
    (s.withMoves ms).tCur = s.tCur := rfl
@[simp] theorem State.withMoves_rCur (s : State) (ms : List Move) :
    (s.withMoves ms).rCur = s.rCur := rfl
@[simp] theorem State.withMoves_owner (s : State) (ms : List Move) :
    (s.withMoves ms).owner = s.owner := rfl
@[simp] theorem State.withMoves_rxOpen (s : State) (ms : List Move) :
    (s.withMoves ms).rxOpen = s.rxOpen := rfl
@[simp] theorem State.withMoves_rxKind (s : State) (ms : List Move) :
    (s.withMoves ms).rxKind = s.rxKind := rfl
@[simp] theorem State.withMoves_rxBuf (s : State) (ms : List Move) :
    (s.withMoves ms).rxBuf = s.rxBuf := rfl
@[simp] theorem State.withMoves_fr (s : State) (ms : List Move) : (s.withMoves ms).fr = s.fr := rfl
@[simp] theorem State.withMoves_tmr (s : State) (ms : List Move) :
    (s.withMoves ms).tmr = s.tmr := rfl
@[simp] theorem State.withMoves_hPend (s : State) (ms : List Move) :
    (s.withMoves ms).hPend = s.hPend := rfl
@[simp] theorem State.withMoves_fault (s : State) (ms : List Move) :
    (s.withMoves ms).fault = s.fault := rfl
@[simp] theorem State.withMoves_refused (s : State) (ms : List Move) :
    (s.withMoves ms).refused = s.refused := rfl
@[simp] theorem State.withMoves_hist (s : State) (ms : List Move) :
    (s.withMoves ms).hist = s.hist := rfl
@[simp] theorem State.withMoves_env (s : State) (ms : List Move) :
    (s.withMoves ms).env = { s.env with moves := ms } := rfl

/-! ### refuse: the refusal mark (R30) -/

@[simp] theorem State.refuse_cfg (s : State) : (s.refuse).cfg = s.cfg := rfl
@[simp] theorem State.refuse_phase (s : State) : (s.refuse).phase = s.phase := rfl
@[simp] theorem State.refuse_fanActive (s : State) : (s.refuse).fanActive = s.fanActive := rfl
@[simp] theorem State.refuse_tCur (s : State) : (s.refuse).tCur = s.tCur := rfl
@[simp] theorem State.refuse_rCur (s : State) : (s.refuse).rCur = s.rCur := rfl
@[simp] theorem State.refuse_owner (s : State) : (s.refuse).owner = s.owner := rfl
@[simp] theorem State.refuse_rxOpen (s : State) : (s.refuse).rxOpen = s.rxOpen := rfl
@[simp] theorem State.refuse_rxKind (s : State) : (s.refuse).rxKind = s.rxKind := rfl
@[simp] theorem State.refuse_rxBuf (s : State) : (s.refuse).rxBuf = s.rxBuf := rfl
@[simp] theorem State.refuse_fr (s : State) : (s.refuse).fr = s.fr := rfl
@[simp] theorem State.refuse_tmr (s : State) : (s.refuse).tmr = s.tmr := rfl
@[simp] theorem State.refuse_hPend (s : State) : (s.refuse).hPend = s.hPend := rfl
@[simp] theorem State.refuse_fault (s : State) : (s.refuse).fault = s.fault := rfl
@[simp] theorem State.refuse_refused (s : State) : (s.refuse).refused = true := rfl
@[simp] theorem State.refuse_hist (s : State) : (s.refuse).hist = s.hist := rfl
@[simp] theorem State.refuse_env (s : State) : (s.refuse).env = s.env := rfl

/-! ### raiseFault: fault entry (R147) -/

@[simp] theorem State.raiseFault_cfg (s : State) (c : FaultCode) (info : Nat) :
    (s.raiseFault c info).cfg = s.cfg := rfl
@[simp] theorem State.raiseFault_phase (s : State) (c : FaultCode) (info : Nat) :
    (s.raiseFault c info).phase = .halted := rfl
@[simp] theorem State.raiseFault_fanActive (s : State) (c : FaultCode) (info : Nat) :
    (s.raiseFault c info).fanActive = s.fanActive := rfl
@[simp] theorem State.raiseFault_tCur (s : State) (c : FaultCode) (info : Nat) :
    (s.raiseFault c info).tCur = s.tCur := rfl
@[simp] theorem State.raiseFault_rCur (s : State) (c : FaultCode) (info : Nat) :
    (s.raiseFault c info).rCur = s.rCur := rfl
@[simp] theorem State.raiseFault_owner (s : State) (c : FaultCode) (info : Nat) :
    (s.raiseFault c info).owner = .none := rfl
@[simp] theorem State.raiseFault_rxOpen (s : State) (c : FaultCode) (info : Nat) :
    (s.raiseFault c info).rxOpen = false := rfl
@[simp] theorem State.raiseFault_rxKind (s : State) (c : FaultCode) (info : Nat) :
    (s.raiseFault c info).rxKind = s.rxKind := rfl
@[simp] theorem State.raiseFault_rxBuf (s : State) (c : FaultCode) (info : Nat) :
    (s.raiseFault c info).rxBuf = [] := rfl
@[simp] theorem State.raiseFault_fr (s : State) (c : FaultCode) (info : Nat) :
    (s.raiseFault c info).fr = s.fr := rfl
@[simp] theorem State.raiseFault_tmr (s : State) (c : FaultCode) (info : Nat) :
    (s.raiseFault c info).tmr = none := rfl
@[simp] theorem State.raiseFault_hPend (s : State) (c : FaultCode) (info : Nat) :
    (s.raiseFault c info).hPend = none := rfl
@[simp] theorem State.raiseFault_fault (s : State) (c : FaultCode) (info : Nat) :
    (s.raiseFault c info).fault = some (c, info) := rfl
@[simp] theorem State.raiseFault_refused (s : State) (c : FaultCode) (info : Nat) :
    (s.raiseFault c info).refused = s.refused := rfl
@[simp] theorem State.raiseFault_hist (s : State) (c : FaultCode) (info : Nat) :
    (s.raiseFault c info).hist = s.hist ++ [.fault c] := rfl
@[simp] theorem State.raiseFault_env (s : State) (c : FaultCode) (info : Nat) :
    (s.raiseFault c info).env = s.env := rfl

end Sys2Proof.Machine
end

