-- ==== Sys2Proof/Laws/Ops.lean ====
section
/-! SUPPORT. What each shared operation can do, said once: a HOST step, a frame built and sent, one
move, one step. -/

namespace Sys2Proof.Machine

namespace OpsLaws

/-! ### A HOST step -/

theorem hostOp_next_iff {admitted : Bool} {effect : State → State} {s t : State} :
    hostOp admitted effect s = .next t ↔
      s.phase ≠ .halted ∧ t = if admitted then effect s else s.refuse := by
  unfold hostOp
  split
  · rename_i h
    simp [h]
  · rename_i h
    simp only [Host.Outcome.next.injEq, ne_eq, h, not_false_eq_true, true_and]
    exact eq_comm

theorem hostOp_of_admitted {effect : State → State} {s : State} (h : s.phase ≠ .halted) :
    hostOp true effect s = .next (effect s) := by simp [hostOp, h]

theorem hostOp_of_refused {effect : State → State} {s : State} (h : s.phase ≠ .halted) :
    hostOp false effect s = .next s.refuse := by simp [hostOp, h]

theorem hostOp_of_halted {admitted : Bool} {effect : State → State} {s : State}
    (h : s.phase = .halted) : hostOp admitted effect s = .fault .halted := by simp [hostOp, h]

theorem blockMove_next_iff {effect : State → State} {s t : State} :
    blockMove effect s = .next t ↔ s.phase ≠ .halted ∧ t = effect s := by
  unfold blockMove
  split
  · rename_i h
    simp [h]
  · rename_i h
    simp only [Host.Outcome.next.injEq, ne_eq, h, not_false_eq_true, true_and]
    exact eq_comm

/-- HALTED admits no host operation of any kind. -/
theorem admitsPure_not_halted {s : State} (h : s.admitsPure = true) : s.phase ≠ .halted := by
  intro hp
  simp [State.admitsPure, hp, Phase.isCycle] at h

theorem admitsTransport_iff {s : State} {o : Owner} :
    s.admitsTransport o = true ↔ s.phase = .idle ∧ s.owner = o := by
  simp [State.admitsTransport]

/-! ### Frames -/

theorem tooLong_iff {c : Cfg} {p : List Byte} :
    tooLong c p = true ↔ c.frameLen < 1 + p.length := by simp [tooLong]

theorem frameOf_length {c : Cfg} {rid : Byte} {p : List Byte} (h : 1 + p.length ≤ c.frameLen) :
    (frameOf c rid p).length = c.frameLen := by
  simp only [frameOf, zeros, List.length_cons, List.length_append, List.length_replicate]
  omega

/-- FR holds exactly the frame just built. -/
theorem writeFrame_frame {s : State} {rid : Byte} {p : List Byte}
    (h : 1 + p.length ≤ s.cfg.frameLen) :
    (s.writeFrame (frameOf s.cfg rid p)).frame = frameOf s.cfg rid p := by
  have hl := frameOf_length (rid := rid) h
  have := MemoryLaws.readList_writeList s.fr (frameOf s.cfg rid p)
  rw [hl] at this
  exact this

/-- FR reads as the frame just built at each of its offsets (R41, R95). -/
theorem frRead_writeFrame {s : State} {rid : Byte} {p : List Byte}
    (h : 1 + p.length ≤ s.cfg.frameLen) {a : Nat} (ha : a < s.cfg.frameLen) :
    (s.writeFrame (frameOf s.cfg rid p)).frRead a = (frameOf s.cfg rid p)[a]? := by
  have hl := frameOf_length (rid := rid) h
  have hr := MemoryLaws.read_writeList s.fr 0 a (frameOf s.cfg rid p)
  have hlt : a < (frameOf s.cfg rid p).length := by omega
  rw [if_pos (by omega)] at hr
  simp [State.frRead, State.writeFrame, ha, hr, hlt]

/-- A frame just built leaves every address that is no offset of FR. -/
theorem read_writeFrame_outside {s : State} {rid : Byte} {p : List Byte}
    (h : 1 + p.length ≤ s.cfg.frameLen) {a : Nat} (ha : s.cfg.frameLen ≤ a) :
    (s.writeFrame (frameOf s.cfg rid p)).fr.read a = s.fr.read a := by
  have hl := frameOf_length (rid := rid) h
  have hr := MemoryLaws.read_writeList s.fr 0 a (frameOf s.cfg rid p)
  rwa [if_neg (by omega)] at hr

/-! ### SEND -/

theorem sendFrame_tooLong {s : State} {rid : Byte} {p : List Byte}
    (h : s.cfg.frameLen < 1 + p.length) :
    s.sendFrame rid p = (.malformed, s.raiseFault .frameEncodingError p.length) := by
  simp [State.sendFrame, tooLong, h]

theorem sendFrame_ok {s : State} {rid : Byte} {p : List Byte}
    (h : 1 + p.length ≤ s.cfg.frameLen) (hc : s.channel = true) :
    s.sendFrame rid p =
      (.ok, ((s.writeFrame (frameOf s.cfg rid p)).answered).emit (.tx (frameOf s.cfg rid p))) := by
  have ht : tooLong s.cfg p = false := by simp [tooLong, h]
  have hc' : (s.writeFrame (frameOf s.cfg rid p)).channel = true := hc
  simp only [State.sendFrame, ht, hc', if_true, Bool.false_eq_true, if_false, writeFrame_frame h]

theorem sendFrame_noChannel {s : State} {rid : Byte} {p : List Byte}
    (h : 1 + p.length ≤ s.cfg.frameLen) (hc : s.channel = false) :
    s.sendFrame rid p = (.noChannel, (s.writeFrame (frameOf s.cfg rid p)).answered) := by
  have ht : tooLong s.cfg p = false := by simp [tooLong, h]
  have hc' : (s.writeFrame (frameOf s.cfg rid p)).channel = false := hc
  simp only [State.sendFrame, ht, hc', Bool.false_eq_true, if_false]

/-- Everything a SEND can come to (R99, R108). -/
theorem sendFrame_cases (s : State) (rid : Byte) (p : List Byte) :
    (s.cfg.frameLen < 1 + p.length ∧
      s.sendFrame rid p = (.malformed, s.raiseFault .frameEncodingError p.length)) ∨
    (1 + p.length ≤ s.cfg.frameLen ∧ s.channel = true ∧ s.sendFrame rid p =
      (.ok, ((s.writeFrame (frameOf s.cfg rid p)).answered).emit (.tx (frameOf s.cfg rid p)))) ∨
    (1 + p.length ≤ s.cfg.frameLen ∧ s.channel = false ∧ s.sendFrame rid p =
      (.noChannel, (s.writeFrame (frameOf s.cfg rid p)).answered)) := by
  rcases Nat.lt_or_ge s.cfg.frameLen (1 + p.length) with h | h
  · exact .inl ⟨h, sendFrame_tooLong h⟩
  · cases hc : s.channel with
    | true => exact .inr (.inl ⟨h, rfl, sendFrame_ok h hc⟩)
    | false => exact .inr (.inr ⟨h, rfl, sendFrame_noChannel h hc⟩)

/-! ### Moves and steps -/

/-- Where a step that answers a next state came from. -/
theorem step_next_cases {s t : State} (h : step s = .next t) :
    s.cfg.Legal ∧
    ((s.env.moves = [] ∧ quietMove s = .next t) ∨
     ∃ m ms, s.env.moves = m :: ms ∧ runMove m (s.withMoves ms) = .next t) := by
  unfold step at h
  split at h
  · rename_i hl
    refine ⟨hl, ?_⟩
    unfold nextMove at h
    split at h
    · rename_i hm
      exact .inl ⟨hm, h⟩
    · rename_i m ms hm
      exact .inr ⟨m, ms, hm, h⟩
  · cases h

theorem step_of_move {s : State} (hl : s.cfg.Legal) {m : Move} {ms : List Move}
    (hm : s.env.moves = m :: ms) : step s = runMove m (s.withMoves ms) := by
  simp only [step, if_pos hl, nextMove, hm]

theorem step_of_no_move {s : State} (hl : s.cfg.Legal) (hm : s.env.moves = []) :
    step s = quietMove s := by
  simp only [step, if_pos hl, nextMove, hm]

end OpsLaws

end Sys2Proof.Machine
end

