-- ==== Sys2Proof/Laws/Exec.lean ====
section
/-! SUPPORT. Every instruction is one HOST step: what admits it and what it then does, and the one
equation that says so for all of them. -/

namespace Sys2Proof.Machine

/-- What the phase and the owner must be for the instruction to be admitted (R93, R94, R172). -/
def admits (i : Instr) (s : State) : Bool :=
  match i with
  | .decode16 _ _ => s.admitsPure
  | .encpct _ => s.admitsPure
  | .temp2pct _ => s.admitsPure
  | .buildframe _ _ => s.admitsPure
  | .aggPower _ _ _ _ _ _ => s.admitsPure
  | .openTransport => s.admitsTransport .none
  | .loopStart => s.admitsTransport .none
  | .closeTransport => s.admitsTransport .none || s.admitsTransport .host
  | .send _ _ => s.admitsTransport .host
  | .readresp _ => s.admitsTransport .host
  | .getTelemetry _ => s.admitsTransport .host
  | .setMode mode speed => (Instr.setMode mode speed).wellFormed && s.admitsTransport .host
  | .rgboff => s.admitsTransport .host
  | .loopStop => true
  | .cmdReadParam _ => s.admitsTransport .host
  | .cmdSetFanMode _ _ => s.admitsTransport .host
  | .cmdRgbOff => s.admitsTransport .host

/-- What an admitted instruction does. -/
def effectOf (i : Instr) (s : State) : State :=
  match i with
  | .decode16 lo hi => s.done .decode16 .ok (.rational (decode16 lo hi))
  | .encpct p => s.done .encpct .ok (.integer (encpct p))
  | .temp2pct t => s.done .temp2pct .ok (.rational (temp2pct s.cfg t))
  | .buildframe rid p => buildframeEffect rid p s
  | .aggPower v12 v5 v33 i12 i5 i33 =>
    s.done .aggPower .ok (.rational (aggPower v12 v5 v33 i12 i5 i33))
  | .openTransport => openEffect s
  | .loopStart => loopStartEffect s
  | .closeTransport => closeEffect s
  | .send rid p => sendEffect rid p s
  | .readresp d => (s.rxOpenWindow .read d).await .readresp
  | .getTelemetry b => getTelemetryEffect b s
  | .setMode mode speed =>
    commandEffect .setMode .setMode (payloadFanMode (fanModeByte mode) (fanModeParam2 speed)) s
  | .rgboff => commandEffect .rgboff .rgboff payloadRgbOff s
  | .loopStop => loopStopEffect s
  | .cmdReadParam b => sendEffect s.cfg.reportId (payloadReadParam b) s
  | .cmdSetFanMode param1 param2 => sendEffect s.cfg.reportId (payloadFanMode param1 param2) s
  | .cmdRgbOff => sendEffect s.cfg.reportId payloadRgbOff s

namespace ExecLaws

/-- Everything exec can do. -/
theorem exec_eq (i : Instr) (s : State) : exec i s = hostOp (admits i s) (effectOf i) s := by
  cases i <;> rfl

theorem exec_next_iff {i : Instr} {s t : State} :
    exec i s = .next t ↔
      s.phase ≠ .halted ∧ t = if admits i s then effectOf i s else s.refuse := by
  rw [exec_eq]
  exact OpsLaws.hostOp_next_iff

theorem exec_admitted {i : Instr} {s : State} (hp : s.phase ≠ .halted) (h : admits i s = true) :
    exec i s = .next (effectOf i s) := by
  rw [exec_eq, h]
  exact OpsLaws.hostOp_of_admitted hp

theorem exec_refused {i : Instr} {s : State} (hp : s.phase ≠ .halted) (h : admits i s = false) :
    exec i s = .next s.refuse := by
  rw [exec_eq, h]
  exact OpsLaws.hostOp_of_refused hp

theorem exec_halted {i : Instr} {s : State} (hp : s.phase = .halted) :
    exec i s = .fault .halted := by
  rw [exec_eq]
  exact OpsLaws.hostOp_of_halted hp

/-! ### A step -/

/-- What a next state of a step can be, seen from the state whose schedule has moved on (log 5). -/
inductive StepForm (u : State) : State → Prop where
  /-- A refused HOST move. -/
  | refused (h : u.phase ≠ .halted) : StepForm u u.refuse
  /-- An admitted HOST move. -/
  | executed (i : Instr) (h : u.phase ≠ .halted) (ha : admits i u = true) :
    StepForm u (effectOf i u)
  /-- A DEVICE chunk. -/
  | arrived (chunk : List Byte) : StepForm u (u.rxArrive chunk)
  /-- A TIMER move. -/
  | expired (h : u.phase ≠ .halted) : StepForm u u.timerStep
  /-- A CTRL move. -/
  | sequenced (h : u.phase ≠ .halted) : StepForm u u.ctrlStep

theorem exec_form {i : Instr} {u t : State} (h : exec i u = .next t) : StepForm u t := by
  obtain ⟨hp, ht⟩ := exec_next_iff.mp h
  split at ht
  · exact ht ▸ .executed i hp ‹_›
  · exact ht ▸ .refused hp

theorem runMove_form {m : Move} {u t : State} (h : runMove m u = .next t) : StepForm u t := by
  cases m with
  | offer o =>
    simp only [runMove, hostMove] at h
    split at h
    · exact exec_form h
    · obtain ⟨hp, ht⟩ := OpsLaws.hostOp_next_iff.mp h
      exact ht ▸ .refused hp
  | intr => exact exec_form (i := .loopStop) h
  | device chunk =>
    cases h
    exact .arrived chunk
  | timer =>
    obtain ⟨hp, ht⟩ := OpsLaws.blockMove_next_iff.mp h
    exact ht ▸ .expired hp
  | ctrl =>
    obtain ⟨hp, ht⟩ := OpsLaws.blockMove_next_iff.mp h
    exact ht ▸ .sequenced hp

/-- Everything a step that answers a next state can have done. -/
theorem step_form {s t : State} (h : step s = .next t) :
    s.cfg.Legal ∧ ∃ ms, StepForm (s.withMoves ms) t := by
  obtain ⟨hl, hq | ⟨m, ms, -, hr⟩⟩ := OpsLaws.step_next_cases h
  · obtain ⟨hp, ht⟩ := OpsLaws.blockMove_next_iff.mp hq.2
    refine ⟨hl, s.env.moves, ?_⟩
    split at ht
    · exact ht ▸ .sequenced (u := s) hp
    · exact ht ▸ .expired (u := s) hp
  · exact ⟨hl, ms, runMove_form hr⟩

end ExecLaws

end Sys2Proof.Machine
end

