-- ==== Sys2Proof/Laws/PerInstr.lean ====
section
/-! SUPPORT. A law stated per instruction: the form of what `encode` presents. -/

namespace Sys2Proof.Laws

namespace EncodedForm

/-- The encoding of an instruction has a defined selector, or is a wire payload of at most 6 bytes
whose first byte is 0x30 or 0x31 (spec/30_encoding.md R66 to R68, R75): a selector of the host
port is never taken for the first byte of a wire command. -/
def Statement (i : Instr) : Prop :=
  match encode i with
  | .hostop opsel operands =>
    ∃ op, opcodeOf opsel = some op ∧ op.opsel = opsel ∧
      (operands.length = (zeroOperands op).length ∨ op = .setMode)
  | .wire p => p.length ≤ 6 ∧ (p.head? = some 0x30#8 ∨ p.head? = some 0x31#8)

theorem decode16 (lo hi : Byte) : Statement (.decode16 lo hi) := ⟨.decode16, rfl, rfl, .inl rfl⟩
theorem encpct (p : Rat) : Statement (.encpct p) := ⟨.encpct, rfl, rfl, .inl rfl⟩
theorem temp2pct (t : Rat) : Statement (.temp2pct t) := ⟨.temp2pct, rfl, rfl, .inl rfl⟩
theorem buildframe (rid : Byte) (p : List Byte) : Statement (.buildframe rid p) :=
  ⟨.buildframe, rfl, rfl, .inl rfl⟩
theorem openTransport : Statement .openTransport := ⟨.openTransport, rfl, rfl, .inl rfl⟩
theorem closeTransport : Statement .closeTransport := ⟨.closeTransport, rfl, rfl, .inl rfl⟩
theorem send (rid : Byte) (p : List Byte) : Statement (.send rid p) := ⟨.send, rfl, rfl, .inl rfl⟩
theorem readresp (d : Duration) : Statement (.readresp d) := ⟨.readresp, rfl, rfl, .inl rfl⟩
theorem getTelemetry (b : Byte) : Statement (.getTelemetry b) :=
  ⟨.getTelemetry, rfl, rfl, .inl rfl⟩
theorem setMode (m : FanMode) (speed : Option Rat) : Statement (.setMode m speed) :=
  ⟨.setMode, rfl, rfl, .inr rfl⟩
theorem rgboff : Statement .rgboff := ⟨.rgboff, rfl, rfl, .inl rfl⟩
theorem aggPower (v12 v5 v33 i12 i5 i33 : TelemetryValue) :
    Statement (.aggPower v12 v5 v33 i12 i5 i33) := ⟨.aggPower, rfl, rfl, .inl rfl⟩
theorem loopStart : Statement .loopStart := ⟨.loopStart, rfl, rfl, .inl rfl⟩
theorem loopStop : Statement .loopStop := ⟨.loopStop, rfl, rfl, .inl rfl⟩
theorem cmdReadParam (b : Byte) : Statement (.cmdReadParam b) := by
  simp [Statement, encode]
theorem cmdSetFanMode (param1 param2 : Byte) : Statement (.cmdSetFanMode param1 param2) := by
  simp [Statement, encode]
theorem cmdRgbOff : Statement .cmdRgbOff := by
  simp [Statement, encode]

end EncodedForm

end Sys2Proof.Laws
end

