-- ==== Sys2Proof/Tests/Slice0.lean ====
section
/-! SUPPORT. The model's own tests. Expected results come from spec/95_test_vectors.md (the vector's
id stands in each comment) or from the encoding tables; the witnesses show that the hypotheses of
each statement are met, at the values where its clauses meet. -/

namespace Sys2Proof.Tests

-- One thread at a time: a thread for each test would need more memory than the tests do.
set_option Elab.async false

open Sys2Proof.Machine

/-! ### Helpers -/

/-- The defaults of R7 with the example `REPORT_ID = 0x00` of spec/95_test_vectors.md. -/
def cfg : Cfg := Cfg.withDefaults 0x00#8 ⟨1, by decide⟩ ⟨1, by decide⟩

/-- IDLE, held by o, with the transport's answers and the schedule given. -/
def idle (o : Owner) (answers : List Bool) (moves : List Move) : State :=
  { State.resetWith cfg with owner := o, env := ⟨moves, answers, 0⟩ }

/-- The loop in a phase without a window. -/
def loopAt (p : Phase) (active : Bool) (t : TelemetryValue) (answers : List Bool)
    (moves : List Move) : State :=
  { idle .loop answers moves with phase := p, fanActive := active, tCur := t }

/-- A window open in phase p with the bytes collected so far. -/
def windowAt (p : Phase) (o : Owner) (pend : Option Pending) (kind : RxKind) (buf : List Byte)
    (moves : List Move) : State :=
  { idle o [] moves with
    phase := p, rxOpen := true, rxKind := kind, rxBuf := buf, hPend := pend
    tmr := some (.win, ⟨1, by decide⟩) }

/-- The fault has been taken. -/
def halted (moves : List Move) : State :=
  { idle .none [] moves with phase := .halted, fault := some (.frameEncodingError, 65) }

def seen {α : Type} (f : State → α) : Host.Outcome State Fault Refusal → Option α
  | .next t => some (f t)
  | .fault _ => none
  | .refused _ => none

def isNext : Host.Outcome State Fault Refusal → Bool
  | .next _ => true
  | .fault _ => false
  | .refused _ => false

/-! ### Well-formedness, R72 and R76 -/

theorem test_manual_without_speed_ill_formed :
    (Instr.setMode .manual none).wellFormed = false := by decide

theorem test_speed_without_manual_ill_formed :
    (Instr.setMode .silent (some 50)).wellFormed = false ∧
    (Instr.setMode .performance (some 0)).wellFormed = false ∧
    (Instr.setMode .passive (some 1)).wellFormed = false := by decide

/-! ### Decoding: a presentation written out from R75, R76 and R109 for every row -/

theorem test_decode_codec :
    decode (.hostop 0x01#8 [.byte 0x64, .byte 0x28]) = .ok (.decode16 0x64#8 0x28#8) ∧
    decode (.hostop 0x02#8 [.num (.finite 50)]) = .ok (.encpct 50) ∧
    decode (.hostop 0x0C#8 [.tel .undef, .tel (.val 5), .tel (.val 3), .tel (.val 1), .tel .undef,
      .tel (.val 2)]) = .ok (.aggPower .undef (.val 5) (.val 3) (.val 1) .undef (.val 2)) :=
  ⟨rfl, rfl, rfl⟩

theorem test_decode_framer :
    decode (.hostop 0x04#8 [.byte 0x5A, .payload [0x31, 0x3A]]) =
      .ok (.buildframe 0x5A#8 [0x31#8, 0x3A#8]) ∧
    decode (.hostop 0x05#8 []) = .ok .openTransport ∧
    decode (.hostop 0x06#8 []) = .ok .closeTransport ∧
    decode (.hostop 0x07#8 [.byte 0x00, .payload [0x30, 0x41, 0x03, 0x00]]) =
      .ok (.send 0x00#8 [0x30#8, 0x41#8, 0x03#8, 0x00#8]) :=
  ⟨rfl, rfl, rfl, rfl⟩

theorem test_decode_readresp :
    (decode (.hostop 0x08#8 [.num (.finite 2)])).toOption = some (.readresp ⟨2, by decide⟩) := by
  decide +kernel

theorem test_decode_commands :
    decode (.hostop 0x09#8 [.byte 0x3A]) = .ok (.getTelemetry 0x3A#8) ∧
    decode (.hostop 0x0A#8 [.mode (some .manual), .num (.finite 50)]) =
      .ok (.setMode .manual (some 50)) ∧
    decode (.hostop 0x0A#8 [.mode (some .passive)]) = .ok (.setMode .passive none) ∧
    decode (.hostop 0x0B#8 []) = .ok .rgboff :=
  ⟨rfl, rfl, rfl, rfl⟩

theorem test_decode_controller :
    decode (.hostop 0x03#8 [.num (.finite 48)]) = .ok (.temp2pct 48) ∧
    decode (.hostop 0x0D#8 []) = .ok .loopStart ∧
    decode (.hostop 0x0E#8 []) = .ok .loopStop :=
  ⟨rfl, rfl, rfl⟩

/-- R70: `31 3A`, `30 41 04 36`, `30 42 19 00 00 00`, and `30 41 04` (CM9: the same frame as with a
trailing 0x00). -/
theorem test_decode_wire :
    decode (.wire [0x31#8, 0x3A#8]) = .ok (.cmdReadParam 0x3A#8) ∧
    decode (.wire [0x30#8, 0x41#8, 0x04#8, 0x36#8]) = .ok (.cmdSetFanMode 0x04#8 0x36#8) ∧
    decode (.wire [0x30#8, 0x41#8, 0x04#8]) = .ok (.cmdSetFanMode 0x04#8 0x00#8) ∧
    decode (.wire [0x30#8, 0x42#8, 0x19#8, 0x00#8, 0x00#8, 0x00#8]) = .ok .cmdRgbOff :=
  ⟨rfl, rfl, rfl, rfl⟩

/-- R70, R71: command bytes the source does not define. -/
theorem test_decode_wire_undefined :
    decode (.wire []) = .error .undefinedCommand ∧
    decode (.wire [0x32#8, 0x3A#8]) = .error .undefinedCommand ∧
    decode (.wire [0x30#8, 0x42#8, 0x18#8]) = .error .undefinedCommand ∧
    decode (.wire [0x31#8, 0x3A#8, 0x01#8]) = .error .undefinedCommand :=
  ⟨rfl, rfl, rfl, rfl⟩

theorem test_pseudo_operations :
    expandPseudo cfg .readTemp = .getTelemetry 0x3A#8 ∧
    expandPseudo cfg .readRpm = .getTelemetry 0x3B#8 ∧
    expandPseudo cfg (.setManual 50) = .setMode .manual (some 50) ∧
    expandPseudo cfg .setPassive = .setMode .passive none :=
  ⟨rfl, rfl, rfl, rfl⟩

/-- Every row of spec/opcode_table.json runs as the first operation after reset. -/
theorem test_every_row_runs_after_reset :
    ([(8, 0x01), (8, 0x02), (8, 0x03), (8, 0x04), (8, 0x05), (8, 0x06), (8, 0x07), (8, 0x08),
      (8, 0x09), (8, 0x0A), (8, 0x0B), (8, 0x0C), (8, 0x0D), (8, 0x0E), (16, 0x3100),
      (32, 0x30410000), (48, 0x304219000000)] : List (Nat × Nat)).all
      (fun r => (decodeTableWord r.1 r.2).isSome &&
        isNext (step (State.reset.withFetchWord r.1 r.2))) = true := by decide +kernel

/-! ### CODEC -/

/-- DV2, DV4, DV6, DV7, DV15. -/
theorem test_decode16_vectors :
    decode16 0x64#8 0x28#8 = 3200 ∧ decode16 0x01#8 0x80#8 = 1 / 65536 ∧
    decode16 0xFF#8 0xFF#8 = 2047 / 2 ∧ decode16 0xFF#8 0x7F#8 = 67076096 ∧
    decode16 0x28#8 0xE9#8 = 37 := by decide +kernel

/-- W1 as a host operation. -/
theorem test_decode16_done :
    seen State.hist (exec (.decode16 0x64#8 0x28#8) (idle .none [] [])) =
      some [.done .decode16 .ok (.rational 3200)] := by decide +kernel

/-- EN1, EN2, EN3, EN6, EN8, EN9, EN11, EN17, EN20, EN21, EN22. -/
theorem test_encpct_vectors :
    [-5, 0, 1 / 1000000, 1, 2, 3, 235 / 11, 50, 9999 / 100, 100, 150].map encpct =
      [0, 0, 8, 9, 9, 10, 27, 54, 99, 100, 100] := by decide +kernel

theorem test_encpct_done :
    seen State.hist (exec (.encpct (1 / 2)) (loopAt .cSleep false .undef [] [])) =
      some [.done .encpct .ok (.integer 8)] := by decide +kernel

/-- AG1, AG5. -/
theorem test_agg_power_omits_undefined_terms :
    aggPower (.val 12) (.val 5) (.val (33 / 10)) .undef (.val 2) (.val 1) = 133 / 10 ∧
    aggPower (.val 12) (.val 0) (.val (33 / 10)) (.val 1) (.val 7) .undef = 12 := by
  decide +kernel

/-- AG2. -/
theorem test_agg_power_all_undefined :
    seen State.hist (exec (.aggPower .undef .undef .undef .undef .undef .undef)
      (idle .host [] [])) = some [.done .aggPower .ok (.rational 0)] := by decide +kernel

/-! ### FRAMER -/

/-- FR2: the result and the frame register. -/
theorem test_buildframe_pads :
    seen (fun t => (t.hist, t.frame)) (exec (.buildframe 0x5A#8 [0x31#8, 0x3A#8])
      (idle .none [] [])) =
    some ([.done .buildframe .ok (.frame (0x5A#8 :: 0x31#8 :: 0x3A#8 :: zeros 62))],
      0x5A#8 :: 0x31#8 :: 0x3A#8 :: zeros 62) := by decide +kernel

/-- FR6. -/
theorem test_buildframe_too_long_faults :
    seen (fun t => (t.fault, t.phase, t.hist)) (exec (.buildframe 0x00#8 (zeros 65))
      (idle .host [] [])) =
    some (some (.frameEncodingError, 65), .halted, [.fault .frameEncodingError]) := by
  decide +kernel

/-- FR14, FR15. -/
theorem test_open_found_or_not :
    seen (fun t => (t.owner, t.hist)) (exec .openTransport (idle .none [true] [])) =
      some (.host, [.done .openTransport .ok .none]) ∧
    seen (fun t => (t.owner, t.hist)) (exec .openTransport (idle .none [false] [])) =
      some (.none, [.done .openTransport .deviceNotFound .none]) := by decide +kernel

/-- FR16, FR17. -/
theorem test_close_idempotent_and_refused :
    seen (fun t => (t.owner, t.hist)) (exec .closeTransport (idle .none [] [])) =
      some (.none, [.done .closeTransport .ok .none]) ∧
    seen (fun t => (t.owner, t.refused)) (exec .closeTransport (loopAt .cSleep true .undef [] [])) =
      some (.loop, true) := by decide +kernel

/-- FR7, FR8. -/
theorem test_send_channel_or_not :
    seen State.hist (exec (.send 0x00#8 [0x30#8, 0x41#8, 0x03#8, 0x00#8]) (idle .host [true] [])) =
      some [.tx (0x00#8 :: 0x30#8 :: 0x41#8 :: 0x03#8 :: zeros 61), .done .send .ok .none] ∧
    seen (fun t => (t.owner, t.hist)) (exec (.send 0x00#8 [0x30#8, 0x41#8, 0x03#8, 0x00#8])
      (idle .host [false] [])) =
      some (.host, [.done .send .transportUnavailable .none]) := by decide +kernel

/-- FR9: the fault wins. -/
theorem test_send_fault_wins :
    seen (fun t => (t.fault, t.hist)) (exec (.send 0x00#8 (zeros 70)) (idle .host [false] [])) =
      some (some (.frameEncodingError, 70), [.fault .frameEncodingError]) := by decide +kernel

/-- R100: the issue step. -/
theorem test_readresp_opens_window :
    seen (fun t => (t.phase, t.rxOpen, t.tmr.map fun x => (x.1, x.2.val)))
      (exec (.readresp ⟨2, by decide⟩) (idle .host [] [])) =
    some (.hWait, true, some (.win, 2)) := by decide +kernel

/-- FR11, the close. -/
theorem test_readresp_returns_bytes :
    seen (fun t => (t.phase, t.hist)) (step
      (windowAt .hWait .host (some .readresp) .read [0x01#8, 0x02#8, 0x03#8] [.timer])) =
    some (.idle, [.win .read [0x01#8, 0x02#8, 0x03#8],
      .done .readresp .ok (.bytes [0x01#8, 0x02#8, 0x03#8])]) := by decide +kernel

/-- FR13, RS2. -/
theorem test_bytes_outside_a_window_discarded :
    step (idle .host [] [.device [0x01#8]]) = .next (idle .host [] []) := by rfl

/-! ### CMDP -/

/-- CM7. -/
theorem test_get_telemetry_no_channel :
    seen (fun t => (t.rxOpen, t.hist)) (exec (.getTelemetry 0x3A#8) (idle .host [false] [])) =
    some (false, [.tel 0x3A#8 .undef,
      .done .getTelemetry .transportUnavailable (.telemetry .undef)]) := by decide +kernel

/-- CM1, CM2. -/
theorem test_get_telemetry_close :
    seen State.hist (step (windowAt .hWait .host (some (.getTelemetry 0x3A#8)) .read
      [0x00#8, 0x31#8, 0x3A#8, 0x28#8, 0xE9#8] [.timer])) =
    some [.win .read [0x00#8, 0x31#8, 0x3A#8, 0x28#8, 0xE9#8], .tel 0x3A#8 (.val 37),
      .done .getTelemetry .ok (.telemetry (.val 37))] ∧
    seen State.hist (step (windowAt .hWait .host (some (.getTelemetry 0x3A#8)) .read
      [0x00#8, 0x31#8, 0x3A#8, 0x28#8] [.timer])) =
    some [.win .read [0x00#8, 0x31#8, 0x3A#8, 0x28#8], .tel 0x3A#8 .undef,
      .done .getTelemetry .decodeUndefined (.telemetry .undef)] := by decide +kernel

/-- CM10: a speed of 250 is clamped to 0x64. -/
theorem test_set_mode_clamps :
    seen State.hist (exec (.setMode .manual (some 250)) (idle .host [true] [])) =
      some [.tx (0x00#8 :: 0x30#8 :: 0x41#8 :: 0x04#8 :: 0x64#8 :: zeros 60)] := by decide +kernel

/-- CM11. -/
theorem test_set_mode_silent :
    seen State.hist (exec (.setMode .silent none) (idle .host [true] [])) =
      some [.tx (0x00#8 :: 0x30#8 :: 0x41#8 :: 0x01#8 :: 0x00#8 :: zeros 60)] := by decide +kernel

/-- CM15. -/
theorem test_rgboff_frame :
    seen (fun t => (t.phase, t.hist)) (exec .rgboff (idle .host [true] [])) =
      some (.hWait, [.tx (0x00#8 :: 0x30#8 :: 0x42#8 :: 0x19#8 :: zeros 61)]) := by decide +kernel

/-- CM16. -/
theorem test_rgboff_no_channel :
    seen (fun t => (t.phase, t.rxOpen, t.hist)) (exec .rgboff (idle .host [false] [])) =
      some (.idle, false, [.done .rgboff .transportUnavailable .none]) := by decide +kernel

theorem test_wire_commands_transfer :
    seen State.hist (exec (.cmdReadParam 0x3B#8) (idle .host [true] [])) =
      some [.tx (0x00#8 :: 0x31#8 :: 0x3B#8 :: zeros 62), .done .send .ok .none] ∧
    seen State.hist (exec (.cmdSetFanMode 0x04#8 0x1A#8) (idle .host [true] [])) =
      some [.tx (0x00#8 :: 0x30#8 :: 0x41#8 :: 0x04#8 :: 0x1A#8 :: zeros 60),
        .done .send .ok .none] ∧
    seen State.hist (exec .cmdRgbOff (idle .host [true] [])) =
      some [.tx (0x00#8 :: 0x30#8 :: 0x42#8 :: 0x19#8 :: zeros 61), .done .send .ok .none] := by
  decide +kernel

/-! ### CTRL -/

/-- TP6, TP7, TP10, TP11, TP13. -/
theorem test_temp2pct_vectors :
    [37, 38, 48, 59, 100].map (temp2pct cfg) = [20, 235 / 11, 35, 50, 50] := by decide +kernel

theorem test_temp2pct_done :
    seen State.hist (exec (.temp2pct 48) (idle .none [] [])) =
      some [.done .temp2pct .ok (.rational 35)] := by decide +kernel

/-- SQ3: `[37, 36, 35, 36, 34, 36]` gives `[A, A, A, A, P, P]`. -/
theorem test_hysteresis_sequence :
    (([37, 36, 35, 36, 34, 36] : List Rat).scanl (ctrlNext cfg) false).tail =
      [true, true, true, true, false, false] := by decide +kernel

/-- LP8, LP9. -/
theorem test_loop_start_refused_or_not_found :
    seen (fun t => (t.refused, t.owner)) (exec .loopStart (idle .host [true] [])) =
      some (true, .host) ∧
    seen (fun t => (t.phase, t.owner, t.hist)) (exec .loopStart (idle .none [false] [])) =
      some (.idle, .none, [.done .loopStart .deviceNotFound .none]) := by decide +kernel

/-- R134 Example: the loop starts. -/
theorem test_loop_start_found :
    seen (fun t => (t.phase, t.owner, t.hist)) (exec .loopStart (idle .none [true] [])) =
      some (.cRtSend, .loop, [.done .loopStart .ok .none]) := by decide +kernel

/-- LP6. -/
theorem test_loop_stop_abandons_window :
    seen (fun t => (t.phase, t.owner, t.rxOpen, t.rxBuf, t.hist)) (exec .loopStop
      (windowAt .cRtWait .loop none .read [0x00#8, 0x31#8, 0x3A#8] [])) =
    some (.idle, .none, false, [], [.stopped, .done .loopStop .interruptedByUser .none]) := by
  decide +kernel

/-- P4: no step in HALTED. -/
theorem test_halted_has_no_step :
    exec .closeTransport (halted []) = .fault .halted ∧
    exec .loopStop (halted []) = .fault .halted ∧
    step (halted [.intr]) = .fault .halted := ⟨rfl, rfl, rfl⟩

/-- LP4: 20 exactly passes, and leaves Active. LP5: 19.875 is below the floor. -/
theorem test_decide_floor :
    seen (fun t => (t.phase, t.fanActive)) (step (loopAt .cDecide true (.val 20) [] [.ctrl])) =
      some (.cModeSend, false) ∧
    seen (fun t => (t.phase, t.fanActive, t.hist))
      (step (loopAt .cDecide true (.val (159 / 8)) [] [.ctrl])) =
      some (.cSleep, true, [.skip .belowFloor]) := by decide +kernel

/-- LP1 and LP3: the failed sends. -/
theorem test_failed_sends_go_on :
    seen (fun t => (t.phase, t.hist)) (step (loopAt .cRtSend false .undef [false] [.ctrl])) =
      some (.cRrSend, [.tel 0x3A#8 .undef, .cycleErr .transportUnavailable]) ∧
    seen (fun t => (t.phase, t.hist)) (step (loopAt .cModeSend true (.val 38) [false] [.ctrl])) =
      some (.cSleep, [.cycleErr .transportUnavailable]) := by decide +kernel

/-- P3, cycle 2: 38 degrees while Active sends `30 41 04 1B`. -/
theorem test_mode_frame_active :
    seen State.hist (step (loopAt .cModeSend true (.val 38) [true] [.ctrl])) =
      some [.tx (0x00#8 :: 0x30#8 :: 0x41#8 :: 0x04#8 :: 0x1B#8 :: zeros 60)] := by decide +kernel

/-! ### Witnesses: states and operands that meet the hypotheses of each statement of
Sys2Proof/Certificates/Slice0/Obligations.lean -/

/-- The schedule a witness needs, over a legal record. -/
def one (m : Move) : State := idle .none [] [m]

/-- A record whose frames are n bytes long. -/
def withFrameLen (n : Nat) : Cfg := { cfg with frameLen := n }

/-- IDLE, held by HOST, frames of n bytes, the channel's answer given. -/
def hostOf (n : Nat) (answer : Bool) : State :=
  { idle .host [answer] [] with cfg := withFrameLen n }

theorem test_witness_legal : cfg.Legal := by decide +kernel

theorem test_witness_decode_encode_round_trip :
    (Instr.setMode .manual (some 50)).wellFormed = true ∧
    (Instr.setMode .silent none).wellFormed = true ∧ Instr.cmdRgbOff.wellFormed = true := by decide

theorem test_witness_decoded_instructions_well_formed :
    decode (.hostop 0x0A#8 [.mode (some .manual), .num (.finite 0)]) =
      .ok (.setMode .manual (some 0)) := rfl

/-- The first and last reserved selectors, and the ones beside them. -/
theorem test_witness_reserved_selectors_refused :
    opcodeOf 0x00#8 = none ∧ opcodeOf 0x01#8 = some .decode16 ∧ opcodeOf 0x0E#8 = some .loopStop ∧
    opcodeOf 0x0F#8 = none ∧ opcodeOf 0xFF#8 = none ∧
    (one (.offer (.hostop 0x0F#8 []))).cfg.Legal ∧
    (one (.offer (.hostop 0x0F#8 []))).phase ≠ .halted ∧
    seen State.refused (step (one (.offer (.hostop 0x0F#8 [])))) = some true := by decide +kernel

/-- Offers rejected for each other reason, presented under a legal record outside HALTED. -/
theorem test_witness_rejected_offers_refused :
    ([.hostop 0x09#8 [.byte 256], .hostop 0x09#8 [.tel .undef], .hostop 0x09#8 [],
      .hostop 0x02#8 [.num .nonFinite], .hostop 0x0A#8 [.mode (some .manual)],
      .wire [0x32#8]] : List Offer).all (fun o =>
        (decode o).toOption.isNone && (seen State.refused (step (one (.offer o))) == some true)) =
      true := by decide +kernel

/-- 255 is a byte and 256 is none; a zero duration is one and a negative one is none. -/
theorem test_witness_ill_typed_operands_rejected :
    decode (.hostop 0x09#8 [.byte 255]) = .ok (.getTelemetry 0xFF#8) ∧
    decode (.hostop 0x09#8 [.byte 256]) = .error .byteRange ∧
    decode (.hostop 0x07#8 [.byte 255, .payload [255, 256]]) = .error .byteRange ∧
    decode (.hostop 0x0A#8 [.mode (some .passive), .byte 0]) = .error .speedNotTaken :=
  ⟨rfl, rfl, rfl, rfl⟩

/-- R70, R71: the wire payloads beside the commands: nothing, too short for one, a byte after it
that is no zero, another constant under `30 42`. -/
theorem test_witness_undefined_commands :
    ([[], [0x30#8], [0x31#8, 0x3A#8, 0x00#8, 0x01#8], [0x30#8, 0x41#8, 0x04#8, 0x36#8, 0x01#8],
      [0x30#8, 0x42#8], [0x30#8, 0x42#8, 0x18#8], [0x30#8, 0x42#8, 0x19#8, 0x00#8, 0x01#8],
      [0x30#8, 0x43#8]] : List (List Byte)).all
      (fun p => (decode (.wire p)).toOption.isNone) = true := by decide +kernel

/-- R70: trailing zeros taken off or put on, past the end of a frame too (log 33). -/
theorem test_witness_padded_commands :
    [0x31#8] ++ zeros 1 = [0x31#8, 0x00#8] ++ zeros 0 ∧
    (decode (.wire [0x31#8])).toOption = some (.cmdReadParam 0x00#8) ∧
    [0x30#8, 0x41#8, 0x04#8] ++ zeros 1 = [0x30#8, 0x41#8, 0x04#8, 0x00#8] ++ zeros 0 ∧
    (decode (.wire ([0x31#8, 0x3A#8] ++ zeros 100))).toOption = some (.cmdReadParam 0x3A#8) ∧
    (decode (.wire [0x30#8, 0x42#8, 0x19#8])).toOption = some .cmdRgbOff := by decide +kernel

/-- A wrong operand at the first and at the last position, one operand too few and one too many. -/
theorem test_witness_wrong_type_and_count :
    decode (.hostop 0x01#8 [.byte 255, .mode none]) = .error .operandType ∧
    decode (.hostop 0x07#8 [.byte 0, .byte 0]) = .error .operandType ∧
    decode (.hostop 0x0C#8 ([.undef, .undef, .undef, .undef, .undef].map Operand.tel ++
      [.num (.finite 0)])) = .error .operandType ∧
    decode (.hostop 0x0C#8 [.num .nonFinite, .byte 0, .byte 0, .byte 0, .byte 0, .byte 0]) =
      .error .nonFinite ∧
    decode (.hostop 0x0A#8 []) = .error .operandCount ∧
    decode (.hostop 0x05#8 [.byte 0]) = .error .operandCount ∧
    decode (.wire [0x30#8, 0x43#8]) = .error .undefinedCommand :=
  ⟨rfl, rfl, rfl, rfl, rfl, rfl, rfl⟩

theorem test_witness_negative_duration :
    (decode (.hostop 0x08#8 [.num (.finite 0)])).toOption = some (.readresp ⟨0, by decide⟩) ∧
    (decode (.hostop 0x08#8 [.num (.finite (-1 / 2))])).toOption = none := by decide +kernel

theorem test_witness_frame_reader_recovers_command :
    7 ≤ (withFrameLen 7).frameLen ∧
    (readFrameCommand (frameOf (withFrameLen 7) 0x00#8 payloadRgbOff)).toOption =
      some .cmdRgbOff := by decide +kernel

/-- FR3 and FR4, and a payload that fills the frame. -/
theorem test_witness_trailing_zeros_give_same_frame :
    1 + [0x30#8, 0x42#8, 0x19#8].length + 61 ≤ cfg.frameLen ∧
    frameOf cfg 0x00#8 ([0x30#8, 0x42#8, 0x19#8] ++ zeros 61) =
      frameOf cfg 0x00#8 [0x30#8, 0x42#8, 0x19#8] := by decide +kernel

/-- DV7, DV4, DV6: both cases of s, at the ends of the exponent's range. -/
theorem test_witness_f16_exponent :
    f16Sign 0x7FFF#16 = 0 ∧ f16Exponent 0x7FFF#16 = 15 ∧ f16Sign 0x8001#16 = 1 ∧
    f16Exponent 0x8001#16 = -16 ∧ f16Exponent 0xFFFF#16 = -1 := by decide +kernel

theorem test_witness_decode16_range :
    decode16 0x01#8 0x80#8 ≠ 0 ∧ decode16 0x01#8 0x80#8 = 1 / 65536 ∧
    0 ≤ f16Exponent (f16Word 0xFF#8 0x7F#8) := by decide +kernel

/-- The breakpoints of R88: 9 begins at 1, 10 at 190/91, 99 at 9001/91. -/
theorem test_witness_encpct_breakpoints :
    encpct 0 = 0 ∧ encpct (99 / 100) = 8 ∧ encpct 1 = 9 ∧ encpct (189 / 91) = 9 ∧
    encpct (190 / 91) = 10 ∧ encpct (9000 / 91) = 98 ∧ encpct (9001 / 91) = 99 ∧
    encpct (9999 / 100) = 99 ∧ encpct 100 = 100 := by decide +kernel

/-- TP5, TP6, TP11, TP12: both sides of both ends of the line. -/
theorem test_witness_temp2pct_ends :
    (36 : Rat) < cfg.minTemp ∧ cfg.minTemp ≤ (37 : Rat) ∧ (59 : Rat) ≤ cfg.maxTemp ∧
    cfg.maxTemp < (60 : Rat) ∧ [36, 37, 59, 60].map (temp2pct cfg) = [20, 20, 50, 50] := by
  decide +kernel

/-- TP6, TP11: ENCPCT of the two ends. -/
theorem test_witness_active_parameter_range :
    encpct (temp2pct cfg 37) = 26 ∧ encpct (temp2pct cfg 59) = 54 := by decide +kernel

/-- HX2, HX5, HX7, HX10, and one tenth of a degree inside the band at each end. -/
theorem test_witness_hysteresis :
    ctrlNext cfg false 37 = true ∧ ctrlNext cfg false (369 / 10) = false ∧
    ctrlNext cfg true (341 / 10) = true ∧ ctrlNext cfg true 34 = false ∧
    ctrlNext cfg false 34 = false ∧ ctrlNext cfg true 35 = true ∧
    cfg.minTemp - cfg.passiveDelta < 35 ∧ (35 : Rat) < cfg.minTemp := by decide +kernel

/-- IDLE and a `C_*` phase, for the pure operations. -/
theorem test_witness_pure_operations :
    (idle .none [] []).phase = .idle ∧ (loopAt .cDecide true (.val 40) [] []).phase.isCycle = true ∧
    isNext (exec (.decode16 0x64#8 0x28#8) (loopAt .cDecide true (.val 40) [] [])) = true ∧
    isNext (exec (.encpct 0) (idle .none [] [])) = true ∧
    isNext (exec (.encpct 100) (idle .none [] [])) = true ∧
    isNext (exec (.temp2pct 37) (idle .host [] [])) = true ∧
    isNext (exec (.aggPower (.val 1) .undef .undef (.val 2) .undef .undef) (idle .none [] [])) =
      true := by decide +kernel

/-- FR5: 64 bytes fill the frame, 65 are too long. -/
theorem test_witness_buildframe_boundary :
    1 + (zeros 64).length ≤ (idle .none [] []).cfg.frameLen ∧
    (idle .none [] []).cfg.frameLen < 1 + (zeros 65).length ∧
    seen State.phase (exec (.buildframe 0x00#8 (zeros 64)) (idle .none [] [])) = some .idle ∧
    seen State.phase (exec (.buildframe 0x00#8 (zeros 65)) (idle .none [] [])) = some .halted := by
  decide +kernel

theorem test_witness_send :
    (idle .host [true] []).phase = .idle ∧ (idle .host [true] []).owner = .host ∧
    (idle .host [true] []).channel = true ∧ (idle .host [false] []).channel = false ∧
    1 + (zeros 64).length ≤ (idle .host [true] []).cfg.frameLen ∧
    (idle .host [true] []).cfg.frameLen < 1 + (zeros 65).length := by decide +kernel

/-- The longest frames that do not hold each command: the fault, with the payload's length. -/
theorem test_witness_short_frames_fault :
    seen State.fault (exec (.getTelemetry 0x3A#8) (hostOf 2 true)) =
      some (some (.frameEncodingError, 2)) ∧
    seen State.fault (exec (.setMode .passive none) (hostOf 4 false)) =
      some (some (.frameEncodingError, 4)) ∧
    seen State.fault (exec .cmdRgbOff (hostOf 6 true)) =
      some (some (.frameEncodingError, 6)) ∧
    seen State.fault (step { loopAt .cRtSend false .undef [true] [.ctrl] with
      cfg := withFrameLen 2 }) = some (some (.frameEncodingError, 2)) ∧
    seen State.fault (step { loopAt .cModeSend true (.val 40) [true] [.ctrl] with
      cfg := withFrameLen 4 }) = some (some (.frameEncodingError, 4)) := by decide +kernel

theorem test_witness_open_and_loop_start :
    (idle .none [true] []).phase = .idle ∧ (idle .none [true] []).owner = .none ∧
    (idle .none [true] []).found = true ∧ (idle .none [false] []).found = false := by
  decide +kernel

/-- CLOSE by each owner, and outside IDLE. -/
theorem test_witness_close :
    (idle .host [] []).phase = .idle ∧
    seen State.refused (exec .closeTransport (idle .none [] [])) = some false ∧
    seen State.refused (exec .closeTransport (idle .host [] [])) = some false ∧
    seen State.refused (exec .closeTransport (idle .loop [] [])) = some true ∧
    seen State.refused (exec .closeTransport (windowAt .hWait .host (some .rgboff) .cmd [] [])) =
      some true := by decide +kernel

/-- A window with a capacity of two bytes, and no window. -/
theorem test_witness_arrival :
    (windowAt .hWait .host (some .readresp) .read [] [.device [0x01#8]]).cfg.Legal ∧
    seen State.rxBuf (step { windowAt .hWait .host (some .readresp) .read [0x01#8]
      [.device [0x02#8, 0x03#8]] with cfg := { cfg with rxCap := some 2 } }) =
      some [0x01#8, 0x02#8] ∧
    (halted [.device [0x01#8]]).rxOpen = false ∧
    seen State.rxBuf (step (halted [.device [0x01#8]])) = some [] := by decide +kernel

/-- A window of capacity three with one byte collected, then two chunks of two. -/
def cappedWindow : State :=
  { windowAt .hWait .host (some .readresp) .read [0x01#8]
      [.device [0x02#8, 0x03#8], .device [0x04#8, 0x05#8]] with
    cfg := { cfg with rxCap := some 3 } }

theorem test_witness_window_collects_all_arrivals :
    cappedWindow.cfg.Legal ∧ cappedWindow.rxBuf.length ≤ 3 ∧ cappedWindow.rxOpen = true ∧
    cappedWindow.env.moves = [[0x02#8, 0x03#8], [0x04#8, 0x05#8]].map Move.device ++ [] ∧
    (windowAt .hWait .host (some .readresp) .read [] [.device [0x01#8]]).cfg.rxCap = none := by
  decide +kernel

/-- Each pending operation closes its window. -/
theorem test_witness_host_window_close :
    ([.readresp, .getTelemetry 0x3A#8, .setMode, .rgboff] : List Pending).all (fun p =>
      seen State.phase (step (windowAt .hWait .host (some p) .read [0xAA#8] [.timer])) ==
        some .idle) = true := by decide +kernel

/-- CM2, CM6 and CM4: one byte too few, just enough, and more. -/
theorem test_witness_resp_decode :
    (zeros 4).length < cfg.respMinLen ∧ cfg.respMinLen ≤ (zeros 5).length ∧
    respDecode cfg (zeros 4) = .undef ∧ respDecode cfg (zeros 5) = .val 0 ∧
    respDecode cfg [0xFF#8, 0xFF#8, 0xFF#8, 0x64#8, 0x28#8, 0xAA#8, 0xBB#8] = .val 3200 := by
  decide +kernel

/-- The shortest frames that hold each command. -/
theorem test_witness_commands :
    3 ≤ (hostOf 3 true).cfg.frameLen ∧ 5 ≤ (hostOf 5 true).cfg.frameLen ∧
    7 ≤ (hostOf 7 true).cfg.frameLen ∧
    seen State.phase (exec (.getTelemetry 0x3A#8) (hostOf 3 true)) = some .hWait ∧
    seen State.phase (exec (.setMode .passive none) (hostOf 5 true)) = some .hWait ∧
    seen State.phase (exec (.setMode .manual (some 50)) (hostOf 5 false)) = some .idle ∧
    seen State.phase (exec .rgboff (hostOf 7 true)) = some .hWait ∧
    seen State.phase (exec .rgboff (hostOf 7 false)) = some .idle := by decide +kernel

theorem test_witness_wire_commands :
    (hostOf 7 true).phase = .idle ∧ (hostOf 7 true).owner = .host ∧
    seen State.phase (exec (.cmdReadParam 0x3A#8) (hostOf 3 true)) = some .idle ∧
    seen State.phase (exec (.cmdSetFanMode 0xFF#8 0xFF#8) (hostOf 5 false)) = some .idle ∧
    seen State.phase (exec .cmdRgbOff (hostOf 7 true)) = some .idle := by decide +kernel

/-- CM14, and its mirror. -/
theorem test_witness_ill_formed_set_mode :
    seen State.refused (exec (.setMode .manual none) (idle .host [true] [])) = some true ∧
    seen State.refused (exec (.setMode .silent (some 50)) (idle .host [true] [])) = some true := by
  decide +kernel

/-- The operations of the two frame statements answer a next state, by a completion, by the fault
and by a refusal. -/
theorem test_witness_frames :
    isNext (exec (.send 0x00#8 (zeros 4)) (idle .host [true] [])) = true ∧
    isNext (exec (.send 0x00#8 (zeros 65)) (idle .host [true] [])) = true ∧
    isNext (exec .rgboff (idle .none [] [])) = true ∧
    isNext (exec .openTransport (idle .none [true] [])) = true ∧
    isNext (exec .loopStart (idle .none [true] [])) = true ∧
    isNext (exec .loopStop (idle .none [] [])) = true := by decide +kernel

/-- LOOP_STOP outside HALTED and in it, and as INTR. -/
theorem test_witness_loop_stop :
    (idle .loop [] [.intr]).phase ≠ .halted ∧ (halted []).phase = .halted ∧
    (idle .loop [] [.intr]).cfg.Legal ∧ (idle .loop [] [.intr]).env.moves = .intr :: [] ∧
    seen State.owner (step (idle .loop [] [.intr])) = some .none := by decide +kernel

/-- Both read-send phases, with a channel and without. -/
theorem test_witness_read_send :
    3 ≤ (loopAt .cRtSend false .undef [true] [.ctrl]).cfg.frameLen ∧
    (loopAt .cRtSend false .undef [true] [.ctrl]).channel = true ∧
    (loopAt .cRrSend false .undef [false] [.ctrl]).channel = false ∧
    seen State.phase (step (loopAt .cRtSend false .undef [true] [.ctrl])) = some .cRtWait ∧
    seen State.phase (step (loopAt .cRrSend false .undef [true] [.ctrl])) = some .cRrWait ∧
    seen State.phase (step (loopAt .cRrSend false .undef [false] [.ctrl])) = some .cDecide := by
  decide +kernel

/-- Both read-wait phases, for CTRL and at the window close. -/
theorem test_witness_read_wait :
    seen State.phase (step (windowAt .cRtWait .loop none .read [] [.ctrl])) = some .cRtWait ∧
    seen State.phase (step (windowAt .cRtWait .loop none .read [] [.timer])) = some .cRrSend ∧
    seen State.phase (step (windowAt .cRrWait .loop none .read [] [.timer])) = some .cDecide ∧
    seen State.rCur (step (windowAt .cRrWait .loop none .read
      [0x00#8, 0x31#8, 0x3B#8, 0x4B#8, 0x20#8] [.timer])) = some (.val 1200) := by decide +kernel

theorem test_witness_decide :
    (loopAt .cDecide false .undef [] [.ctrl]).owner = .loop ∧
    (loopAt .cDecide false .undef [] [.ctrl]).tCur = .undef ∧
    (159 / 8 : Rat) < cfg.sanityFloor ∧ cfg.sanityFloor ≤ (20 : Rat) ∧
    seen State.phase (step (loopAt .cDecide false .undef [] [.ctrl])) = some .cSleep := by
  decide +kernel

/-- The mode send in a frame of 5 bytes, its window close, and the end of the sleep. -/
theorem test_witness_mode_send_and_sleep :
    5 ≤ (withFrameLen 5).frameLen ∧
    seen State.phase (step { loopAt .cModeSend false (.val 20) [true] [.ctrl] with
      cfg := withFrameLen 5 }) = some .cModeWait ∧
    seen State.phase (step (windowAt .cModeWait .loop none .cmd [0xAA#8] [.timer])) =
      some .cSleep ∧
    seen State.phase (step { loopAt .cSleep false (.val 20) [] [.timer] with
      tmr := some (.sleep, ⟨15, by decide⟩) }) = some .cRtSend := by decide +kernel

/-- CTRL in C_MODE_WAIT, in C_SLEEP and while HOST owns the transport, and TIMER with none armed. -/
theorem test_witness_disabled_agents_hold :
    seen State.phase (step (windowAt .cModeWait .loop none .cmd [] [.ctrl])) = some .cModeWait ∧
    seen State.phase (step (loopAt .cSleep true (.val 40) [] [.ctrl])) = some .cSleep ∧
    seen State.phase (step (idle .host [] [.ctrl])) = some .idle ∧
    (idle .host [] [.timer]).tmr = none ∧
    seen State.phase (step (idle .host [] [.timer])) = some .idle := by decide +kernel

/-- P3, cycles 2 and 6: 38 degrees, then 15. -/
def twoCycles : List CycleInput :=
  [⟨[0x00#8, 0x31#8, 0x3A#8, 0x30#8, 0xE9#8], [0x00#8, 0x31#8, 0x3B#8, 0x4B#8, 0x20#8], []⟩,
   ⟨[0x00#8, 0x31#8, 0x3A#8, 0x78#8, 0xE8#8], [0x00#8, 0x31#8, 0x3B#8, 0x4B#8, 0x20#8], []⟩]

theorem test_witness_loop_follows_pure_controller :
    cfg.Legal ∧ 5 ≤ cfg.frameLen ∧
    (loopAt .cRtSend false .undef (List.replicate 6 true) (loopMoves cfg twoCycles)).env.answers =
      List.replicate (3 * twoCycles.length) true ∧
    loopActive cfg false twoCycles = true := by decide +kernel

/-- In H_WAIT, by a non-owner in IDLE, and in a cycle. -/
theorem test_witness_ownership_refusals :
    seen State.refused (exec (.encpct 50)
      (windowAt .hWait .host (some .rgboff) .cmd [] [])) = some true ∧
    seen State.refused (exec .openTransport (idle .host [] [])) = some true ∧
    seen State.refused (exec (.readresp ⟨1, by decide⟩) (idle .none [] [])) = some true ∧
    seen State.refused (exec .cmdRgbOff (loopAt .cDecide false (.val 40) [] [])) = some true := by
  decide +kernel

theorem test_witness_halted_is_quiescent :
    (halted []).phase = .halted ∧ (halted []).cfg.Legal ∧ (halted [.ctrl]).env.moves = .ctrl :: [] ∧
    (halted [.device [0x01#8]]).rxOpen = false := by decide +kernel

theorem test_witness_step_runs_decoded_instruction :
    (one (.offer (.hostop 0x05#8 []))).cfg.Legal ∧
    (one (.offer (.hostop 0x05#8 []))).env.moves = .offer (.hostop 0x05#8 []) :: [] ∧
    (decode (.hostop 0x05#8 [])).toOption = some .openTransport := by decide +kernel

/-- Each constraint of R7, broken at its boundary. -/
theorem test_witness_illegal_configuration :
    ([{ cfg with passiveDelta := 0 }, { cfg with maxTemp := 37 }, { cfg with minFan := -1 },
      { cfg with maxFan := 19 }, { cfg with maxFan := 101 }, { cfg with respMinLen := 4 },
      { cfg with respLoOff := 5 }, { cfg with frameLen := 0 }] : List Cfg).all (fun c =>
        !decide c.Legal && !isNext (step (State.resetWith c))) = true := by decide +kernel

theorem test_witness_reset_values :
    (halted [.device []]).phase = .halted ∧ isNext (step (halted [.device []])) = true := by
  decide +kernel

/-- An open temperature window: the invariants hold and the step answers a next state. -/
theorem test_witness_invariants :
    Inv (windowAt .cRtWait .loop none .read [0xAA#8] [.timer]) ∧
    Inv2 (windowAt .cRtWait .loop none .read [0xAA#8] [.timer]) ∧
    WholeFrames { windowAt .cRtWait .loop none .read [0xAA#8] [.timer] with
      hist := [.tx (0x00#8 :: 0x31#8 :: 0x3A#8 :: zeros 62)] } ∧
    isNext (step (windowAt .cRtWait .loop none .read [0xAA#8] [.timer])) = true := by
  refine ⟨?_, ?_, ?_, rfl⟩
  · constructor <;> simp [windowAt, idle, State.resetWith, Phase.isWindow, Phase.isCycle, cfg,
      Cfg.withDefaults]
  · constructor <;> simp [windowAt, idle, State.resetWith, Memory.wf, Memory.read]
  · intro f hf
    simp only [List.mem_singleton, Event.tx.injEq] at hf
    subst hf
    rfl

/-- OPEN, a SEND that fills the frame, CLOSE: a schedule that keeps the four duties. -/
def dutifulMoves : List Move :=
  [.offer (.hostop 0x05#8 []), .offer (.hostop 0x07#8 [.byte 0, .payload (List.replicate 64 1)]),
   .offer (.hostop 0x06#8 [])]

theorem test_witness_dutiful_host :
    7 ≤ (idle .none [true] dutifulMoves).cfg.frameLen ∧
    HostDuties (idle .none [true] dutifulMoves).cfg 0x00#8
      (idle .none [true] dutifulMoves).env.moves ∧
    isNext (step (idle .none [true] dutifulMoves)) = true := by
  refine ⟨by decide +kernel, ⟨by decide +kernel, ?_, rfl, by decide +kernel⟩, by decide +kernel⟩
  exact List.all_eq_true.mp (by decide +kernel)

/-- A SET_MODE that waits for its CMD window, and the window's close. -/
theorem test_witness_pending_window_kind :
    Inv (windowAt .hWait .host (some .setMode) .cmd [0xAA#8] [.timer]) ∧
    Inv2 (windowAt .hWait .host (some .setMode) .cmd [0xAA#8] [.timer]) ∧
    seen State.hist (step (windowAt .hWait .host (some .setMode) .cmd [0xAA#8] [.timer])) =
      some [.win .cmd [0xAA#8], .done .setMode .ok .none] := by
  refine ⟨?_, ?_, by decide +kernel⟩
  · constructor <;> simp [windowAt, idle, State.resetWith, Phase.isWindow, Phase.isCycle, cfg,
      Cfg.withDefaults]
  · constructor <;> simp [windowAt, idle, State.resetWith, Memory.wf, Memory.read,
      Pending.windowKind]

/-- Both writers of `fan_active` change it: LOOP_START's is seen on an Active record. -/
theorem test_witness_fan_active_writers :
    seen State.fanActive (step (loopAt .cDecide false (.val 37) [] [.ctrl])) = some true ∧
    seen State.fanActive (step { idle .none [true] [.offer (.hostop 0x0D#8 [])] with
      fanActive := true }) = some false := by decide +kernel

/-- Invariants with a fault set: the only steps left are DEVICE's. -/
theorem test_witness_marks_sticky :
    Inv { halted [.device [0x01#8]] with refused := true } ∧
    isNext (step { halted [.device [0x01#8]] with refused := true }) = true := by
  refine ⟨?_, rfl⟩
  constructor <;> simp [halted, idle, State.resetWith, Phase.isWindow, Phase.isCycle, cfg,
    Cfg.withDefaults]

/-- A step that adds a TX event. -/
theorem test_witness_only_the_owner_transmits :
    seen State.hist (step (loopAt .cRrSend false .undef [true] [.ctrl])) =
      some [.tx (0x00#8 :: 0x31#8 :: 0x3B#8 :: zeros 62)] := by decide +kernel

theorem test_witness_rpm_and_history :
    isNext (step (loopAt .cDecide false (.val 40) [] [.ctrl])) = true ∧
    isNext (step (halted [.timer])) = false ∧
    isNext (step (State.resetWith { cfg with frameLen := 0 })) = false := by decide +kernel

end Sys2Proof.Tests
end

namespace Sys2Proof.Machine.Scope

open OpsLaws

/-! ### Legality, R7 and R166 -/

/-- R7 read in the negative: a record is illegal exactly where one of the eight constraints is
broken. -/
theorem not_legal_iff {c : Cfg} :
    ¬ c.Legal ↔
      c.passiveDelta ≤ 0 ∨ c.maxTemp ≤ c.minTemp ∨ c.minFan < 0 ∨ c.maxFan < c.minFan ∨
      100 < c.maxFan ∨ c.respMinLen ≤ c.respHiOff ∨ c.respMinLen ≤ c.respLoOff ∨
      c.frameLen = 0 := by
  simp only [Cfg.Legal, not_and_or, not_lt, not_le, Nat.lt_one_iff]

theorem step_of_not_legal {s : State} (h : ¬ s.cfg.Legal) : step s = .refused .illegalConfig :=
  if_neg h

/-! ### HOST's move, R5 and R14 -/

theorem hostMove_of_decode_ok {o : Offer} {i : Instr} (h : decode o = .ok i) (s : State) :
    hostMove o s = exec i s := by
  simp only [hostMove, h]

/-! ### The obligations -/

/-- Settles O48: the first move of the schedule is HOST's, and HOST runs what its offer decodes
to. -/
theorem stepRunsDecodedInstruction : Obligations.StepRunsDecodedInstruction := by
  intro s o ms i hlegal hmoves hdecode
  calc step s
    _ = runMove (.offer o) (s.withMoves ms) := step_of_move hlegal hmoves
    _ = hostMove o (s.withMoves ms) := rfl
    _ = exec i (s.withMoves ms) := hostMove_of_decode_ok hdecode _

/-- Settles O49: a broken constraint makes the record illegal, and the step tests legality before
it looks at any move. -/
theorem illegalConfigurationRunsNothing : Obligations.IllegalConfigurationRunsNothing :=
  fun _ hbroken => step_of_not_legal (not_legal_iff.mpr hbroken)

end Sys2Proof.Machine.Scope

namespace Sys2Proof.Machine.Transitions

open OpsLaws ExecLaws

/-! ### What a step records

A step of any agent writes bookkeeping (the history, the frame register, the transport's answers,
the schedule, the refusal mark) and makes at most one transition of the sequencer. -/

/-- The bookkeeping part of a step. -/
inductive Records (u : State) : State → Prop where
  | nil : Records u u
  /-- The schedule moves on (log 5). -/
  | scheduled {v : State} (ms : List Move) (h : Records u v) : Records u (v.withMoves ms)
  /-- R31. -/
  | logged {v : State} (ev : Event) (h : Records u v) : Records u (v.emit ev)
  /-- A draw of the transport (log 8). -/
  | drew {v : State} (h : Records u v) : Records u v.answered
  /-- R95: a frame that holds its payload is built in FR. -/
  | built {v : State} (rid : Byte) (p : List Byte) (hfits : 1 + p.length ≤ v.cfg.frameLen)
    (h : Records u v) : Records u (v.writeFrame (frameOf v.cfg rid p))
  /-- R30. -/
  | marked {v : State} (h : Records u v) : Records u v.refuse

/-- The state without what a step records. -/
def bare (s : State) : State :=
  { s with
    fr := [], hist := [], refused := false, env := { moves := [], answers := [], asked := 0 } }

section
variable {u v : State}

theorem Records.done (op : Opcode) (code : Status) (r : Result) (h : Records u v) :
    Records u (v.done op code r) := .logged _ h

/-- Recording writes no field of the sequencer. -/
theorem Records.bare_eq (h : Records u v) : bare v = bare u := by
  induction h with
  | nil => rfl
  | scheduled _ _ ih | logged _ _ ih | drew _ ih | built _ _ _ _ ih | marked _ ih => exact ih

theorem Records.cfg_eq (h : Records u v) : v.cfg = u.cfg := (congrArg State.cfg h.bare_eq :)
theorem Records.phase_eq (h : Records u v) : v.phase = u.phase := (congrArg State.phase h.bare_eq :)
theorem Records.owner_eq (h : Records u v) : v.owner = u.owner := (congrArg State.owner h.bare_eq :)
theorem Records.tCur_eq (h : Records u v) : v.tCur = u.tCur := (congrArg State.tCur h.bare_eq :)
theorem Records.fanActive_eq (h : Records u v) : v.fanActive = u.fanActive :=
  (congrArg State.fanActive h.bare_eq :)
theorem Records.fault_eq (h : Records u v) : v.fault = u.fault := (congrArg State.fault h.bare_eq :)

theorem Records.trans {w : State} (h : Records u v) (h' : Records v w) : Records u w := by
  induction h' with
  | nil => exact h
  | scheduled ms _ ih => exact .scheduled ms ih
  | logged ev _ ih => exact .logged ev ih
  | drew _ ih => exact .drew ih
  | built rid p hfits _ ih => exact .built rid p hfits ih
  | marked _ ih => exact .marked ih

theorem Records.hist_prefix (h : Records u v) : u.hist <+: v.hist := by
  induction h with
  | nil => exact List.prefix_rfl
  | logged _ _ ih => exact ih.trans (List.prefix_append _ _)
  | scheduled _ _ ih | drew _ ih | built _ _ _ _ ih | marked _ ih => exact ih

theorem Records.refused_of (h : Records u v) (hu : u.refused = true) : v.refused = true := by
  induction h with
  | nil => exact hu
  | marked _ _ => rfl
  | scheduled _ _ ih | logged _ _ ih | drew _ ih | built _ _ _ _ ih => exact ih

end

/-! ### The transitions of the sequencer -/

/-- The three sends of the cycle: the phase that sends, the phase that waits, the kind of the window
between them (R126). -/
inductive Opens : Phase → Phase → RxKind → Prop where
  | temp : Opens .cRtSend .cRtWait .read
  | rpm : Opens .cRrSend .cRrWait .read
  | mode : Opens .cModeSend .cModeWait .cmd

/-- Everything the sequencer can do in one step. -/
inductive Transition (v : State) : State → Prop where
  | stays : Transition v v
  /-- R147. -/
  | faults (n : Nat) (hp : v.phase ≠ .halted) : Transition v (v.raiseFault .frameEncodingError n)
  /-- OPEN and CLOSE, R97, R98. -/
  | ownerSet (o : Owner) (hp : v.phase = .idle) (ho : o ≠ .loop) :
    Transition v { v with owner := o }
  /-- A host operation waits for its window, R100, R113, R116, R118. -/
  | hostWaits (p : Pending) (d : Duration) (hp : v.phase = .idle) (ho : v.owner = .host) :
    Transition v ((v.rxOpenWindow p.windowKind d).await p)
  /-- The host's window closes, R104. -/
  | hostResumes (hp : v.phase = .hWait) : Transition v v.rxClose.resume
  /-- R134. -/
  | loopStarts (hp : v.phase = .idle) (ho : v.owner = .none) :
    Transition v { v with
      owner := .loop, fanActive := false, tCur := .undef, rCur := .undef, phase := .cRtSend }
  /-- R135. -/
  | loopStops (hp : v.phase ≠ .halted) :
    Transition v { v with
      rxOpen := false, rxBuf := if v.rxOpen then [] else v.rxBuf, tmr := none, hPend := none,
      owner := .none, phase := .idle }
  /-- A send of the cycle succeeds, R127, R130. -/
  | loopWaits {p : Phase} {k : RxKind} (d : Duration) (hk : Opens v.phase p k)
    (ho : v.owner = .loop) : Transition v { v.rxOpenWindow k d with phase := p }
  /-- The temperature read fails, R127. -/
  | tempFails (hp : v.phase = .cRtSend) (ho : v.owner = .loop) :
    Transition v { v with tCur := .undef, phase := .cRrSend }
  /-- The RPM read fails, R127. -/
  | rpmFails (hp : v.phase = .cRrSend) (ho : v.owner = .loop) :
    Transition v { v with rCur := .undef, phase := .cDecide }
  /-- The temperature window closes, R128. -/
  | tempRead (x : TelemetryValue) (hp : v.phase = .cRtWait) :
    Transition v { v.rxClose with tCur := x, phase := .cRrSend }
  /-- The RPM window closes, R128. -/
  | rpmRead (x : TelemetryValue) (hp : v.phase = .cRrWait) :
    Transition v { v.rxClose with rCur := x, phase := .cDecide }
  /-- C_DECIDE lets a temperature through, R129. -/
  | decides (q : Rat) (hp : v.phase = .cDecide) (ho : v.owner = .loop) (hq : v.tCur = .val q)
    (hfloor : v.cfg.sanityFloor ≤ q) :
    Transition v { v with fanActive := ctrlNext v.cfg v.fanActive q, phase := .cModeSend }
  /-- The cycle is skipped or its mode send fails, R129, R130. -/
  | sleeps (hp : v.phase = .cDecide ∨ v.phase = .cModeSend) (ho : v.owner = .loop) :
    Transition v v.enterSleep
  /-- The window after the mode send closes, R130. -/
  | modeDone (hp : v.phase = .cModeWait) : Transition v v.rxClose.enterSleep
  /-- The next cycle begins, R131. -/
  | wakes {d : Duration} (ht : v.tmr = some (.sleep, d)) :
    Transition v { v with tmr := none, phase := .cRtSend }
  /-- R102. -/
  | arrives (chunk : List Byte) (hw : v.rxOpen = true) :
    Transition v { v with rxBuf := capTo v.cfg.rxCap (v.rxBuf ++ chunk) }
  /-- A window closes for which nobody waits; no reachable state has one (log 19). -/
  | shuts {d : Duration} (ht : v.tmr = some (.win, d))
    (hp : v.phase.isWindow = false ∨ v.phase = .hWait ∧ v.hPend = none) : Transition v v.rxClose

/-- A step seen whole: it records, then the sequencer makes its transition. -/
def Change (u t : State) : Prop := ∃ v, Records u v ∧ Transition v t

theorem Records.change {u v : State} (h : Records u v) : Change u v := ⟨v, h, .stays⟩

/-! ### The effect of a frame that is sent -/

/-- What an operation does with the answer to its send; a fault ends it (R147). -/
def afterSend (ok noChannel : State → State) : Sent × State → State
  | (.ok, t) => ok t
  | (.noChannel, t) => noChannel t
  | (.malformed, t) => t

section
variable {s : State}

theorem sendEffect_eq (rid : Byte) (p : List Byte) :
    sendEffect rid p s = afterSend (fun t => t.done .send .ok .none)
      (fun t => t.done .send .transportUnavailable .none) (s.sendFrame rid p) := rfl

theorem getTelemetryEffect_eq (b : Byte) :
    getTelemetryEffect b s = afterSend
      (fun t => (t.rxOpenWindow .read s.cfg.tWinRead).await (.getTelemetry b))
      (fun t =>
        (t.emit (.tel b .undef)).done .getTelemetry .transportUnavailable (.telemetry .undef))
      (s.sendFrame s.cfg.reportId (payloadReadParam b)) := rfl

theorem commandEffect_eq (op : Opcode) (pending : Pending) (p : List Byte) :
    commandEffect op pending p s = afterSend
      (fun t => (t.rxOpenWindow .cmd s.cfg.tWinCmd).await pending)
      (fun t => t.done op .transportUnavailable .none) (s.sendFrame s.cfg.reportId p) := rfl

theorem ctrlTempSend_eq :
    ctrlTempSend s = afterSend
      (fun t => { t.rxOpenWindow .read s.cfg.tWinRead with phase := .cRtWait })
      (fun t => { t.readFailed s.cfg.pidTemp with tCur := .undef, phase := .cRrSend })
      (s.sendFrame s.cfg.reportId (payloadReadParam s.cfg.pidTemp)) := rfl

theorem ctrlRpmSend_eq :
    ctrlRpmSend s = afterSend
      (fun t => { t.rxOpenWindow .read s.cfg.tWinRead with phase := .cRrWait })
      (fun t => { t.readFailed s.cfg.pidRpm with rCur := .undef, phase := .cDecide })
      (s.sendFrame s.cfg.reportId (payloadReadParam s.cfg.pidRpm)) := rfl

theorem ctrlModeSend_of_val {q : Rat} (hq : s.tCur = .val q) :
    ctrlModeSend s = afterSend
      (fun t => { t.rxOpenWindow .cmd s.cfg.tWinCmd with phase := .cModeWait })
      (fun t => (t.emit (.cycleErr .transportUnavailable)).enterSleep)
      (s.sendFrame s.cfg.reportId (ctrlCmd s.cfg s.fanActive q)) := by
  simp only [ctrlModeSend, hq]
  rfl

theorem ctrlModeSend_of_undef (hq : s.tCur = .undef) : ctrlModeSend s = s := by
  simp only [ctrlModeSend, hq]

/-- A send takes the fault, or it records and leaves the rest to the operation. -/
theorem afterSend_change {rid : Byte} {p : List Byte} {ok noChannel : State → State}
    (hp : s.phase ≠ .halted) (hok : ∀ v, Records s v → Change s (ok v))
    (hno : ∀ v, Records s v → Change s (noChannel v)) :
    Change s (afterSend ok noChannel (s.sendFrame rid p)) := by
  obtain ⟨-, h⟩ | ⟨hfits, -, h⟩ | ⟨hfits, -, h⟩ := sendFrame_cases s rid p <;> rw [h]
  · exact ⟨s, .nil, .faults _ hp⟩
  · exact hok _ (.logged _ (.drew (.built rid p hfits .nil)))
  · exact hno _ (.drew (.built rid p hfits .nil))

/-! ### HOST's operations -/

theorem sendEffect_change (rid : Byte) (p : List Byte) (hp : s.phase ≠ .halted) :
    Change s (sendEffect rid p s) :=
  sendEffect_eq (s := s) rid p ▸
    afterSend_change hp (fun _ hv => (hv.done ..).change) (fun _ hv => (hv.done ..).change)

/-- A window opens for a host operation that has just recorded. -/
theorem Records.host_waits {v : State} (h : Records s v) (hs : s.phase = .idle ∧ s.owner = .host)
    (p : Pending) (d : Duration) : Change s ((v.rxOpenWindow p.windowKind d).await p) :=
  ⟨v, h, .hostWaits p d (h.phase_eq.trans hs.1) (h.owner_eq.trans hs.2)⟩

theorem getTelemetryEffect_change (b : Byte) (hp : s.phase ≠ .halted)
    (hs : s.phase = .idle ∧ s.owner = .host) : Change s (getTelemetryEffect b s) :=
  getTelemetryEffect_eq (s := s) b ▸
    afterSend_change hp (fun _ hv => hv.host_waits hs (.getTelemetry b) _)
      (fun _ hv => ((hv.logged _).done ..).change)

theorem commandEffect_change (op : Opcode) {pending : Pending} (hk : pending.windowKind = .cmd)
    (p : List Byte) (hp : s.phase ≠ .halted) (hs : s.phase = .idle ∧ s.owner = .host) :
    Change s (commandEffect op pending p s) :=
  commandEffect_eq (s := s) op pending p ▸
    afterSend_change hp (fun _ hv => hk ▸ hv.host_waits hs pending _)
      (fun _ hv => (hv.done ..).change)

theorem buildframeEffect_change (rid : Byte) (p : List Byte) (hp : s.phase ≠ .halted) :
    Change s (buildframeEffect rid p s) := by
  unfold buildframeEffect
  split
  · exact ⟨s, .nil, .faults _ hp⟩
  · rename_i hlong
    have hfits : 1 + p.length ≤ s.cfg.frameLen := by
      rw [tooLong_iff] at hlong
      omega
    exact ((Records.built rid p hfits .nil).done ..).change

theorem openEffect_change (hp : s.phase = .idle) : Change s (openEffect s) := by
  unfold openEffect
  split
  · exact ⟨s.answered.done .openTransport .ok .none, .logged _ (.drew .nil),
      .ownerSet .host hp (by decide)⟩
  · exact ((Records.drew .nil).done ..).change

theorem closeEffect_change (hp : s.phase = .idle) : Change s (closeEffect s) :=
  ⟨s.done .closeTransport .ok .none, .logged _ .nil, .ownerSet .none hp (by decide)⟩

theorem loopStartEffect_change (hp : s.phase = .idle) (ho : s.owner = .none) :
    Change s (loopStartEffect s) := by
  unfold loopStartEffect
  split
  · exact ⟨s.answered.done .loopStart .ok .none, .logged _ (.drew .nil), .loopStarts hp ho⟩
  · exact ((Records.drew .nil).done ..).change

theorem loopStopEffect_change (hp : s.phase ≠ .halted) : Change s (loopStopEffect s) :=
  ⟨(s.emit .stopped).done .loopStop .interruptedByUser .none, .logged _ (.logged _ .nil),
    .loopStops hp⟩

/-- An admitted instruction. -/
theorem effectOf_change {i : Instr} (hp : s.phase ≠ .halted) (h : admits i s = true) :
    Change s (effectOf i s) := by
  cases i with
  | decode16 | encpct | temp2pct | aggPower => exact (Records.done _ _ _ .nil).change
  | buildframe rid p => exact buildframeEffect_change rid p hp
  | openTransport => exact openEffect_change (admitsTransport_iff.mp h).1
  | closeTransport =>
    obtain h | h := Bool.or_eq_true_iff.mp h <;>
      exact closeEffect_change (admitsTransport_iff.mp h).1
  | send rid p => exact sendEffect_change rid p hp
  | readresp d => exact Records.nil.host_waits (admitsTransport_iff.mp h) .readresp d
  | getTelemetry b => exact getTelemetryEffect_change b hp (admitsTransport_iff.mp h)
  | setMode mode speed =>
    exact commandEffect_change _ rfl _ hp (admitsTransport_iff.mp (Bool.and_eq_true_iff.mp h).2)
  | rgboff => exact commandEffect_change _ rfl _ hp (admitsTransport_iff.mp h)
  | loopStart =>
    obtain ⟨hidle, hnone⟩ := admitsTransport_iff.mp h
    exact loopStartEffect_change hidle hnone
  | loopStop => exact loopStopEffect_change hp
  | cmdReadParam | cmdSetFanMode | cmdRgbOff => exact sendEffect_change _ _ hp

/-! ### DEVICE, CTRL and TIMER -/

theorem rxArrive_change (chunk : List Byte) : Change s (s.rxArrive chunk) := by
  unfold State.rxArrive
  split
  · exact ⟨s, .nil, .arrives chunk ‹_›⟩
  · exact Records.nil.change

/-- What passes the filter of R129 is a temperature at or above the floor. -/
theorem sanity_pass {c : Cfg} {x : TelemetryValue} {q : Rat} (h : sanity c x = .pass q) :
    x = .val q ∧ c.sanityFloor ≤ q := by
  unfold sanity at h
  split at h
  · cases h
  · split at h
    · cases h
    · cases h
      exact ⟨rfl, not_lt.mp ‹_›⟩

/-- A window opens for a send of the cycle that has just recorded. -/
theorem Records.loop_waits {v : State} (h : Records s v) (ho : s.owner = .loop) {p : Phase}
    {k : RxKind} (hk : Opens s.phase p k) (d : Duration) :
    Change s { v.rxOpenWindow k d with phase := p } :=
  ⟨v, h, .loopWaits d (h.phase_eq ▸ hk) (h.owner_eq.trans ho)⟩

section
variable (ho : s.owner = .loop)
include ho

theorem ctrlTempSend_change (hp : s.phase = .cRtSend) : Change s (ctrlTempSend s) :=
  ctrlTempSend_eq (s := s) ▸
    afterSend_change (by simp [hp]) (fun _ hv => hv.loop_waits ho (hp ▸ .temp) _)
      (fun v hv => ⟨v.readFailed s.cfg.pidTemp, .logged _ (.logged _ hv),
        .tempFails (hv.phase_eq.trans hp) (hv.owner_eq.trans ho)⟩)

theorem ctrlRpmSend_change (hp : s.phase = .cRrSend) : Change s (ctrlRpmSend s) :=
  ctrlRpmSend_eq (s := s) ▸
    afterSend_change (by simp [hp]) (fun _ hv => hv.loop_waits ho (hp ▸ .rpm) _)
      (fun v hv => ⟨v.readFailed s.cfg.pidRpm, .logged _ (.logged _ hv),
        .rpmFails (hv.phase_eq.trans hp) (hv.owner_eq.trans ho)⟩)

theorem ctrlModeSend_change (hp : s.phase = .cModeSend) : Change s (ctrlModeSend s) := by
  cases hq : s.tCur with
  | undef =>
    rw [ctrlModeSend_of_undef hq]
    exact Records.nil.change
  | val q =>
    exact ctrlModeSend_of_val hq ▸
      afterSend_change (by simp [hp]) (fun _ hv => hv.loop_waits ho (hp ▸ .mode) _)
        (fun v hv => ⟨v.emit (.cycleErr .transportUnavailable), .logged _ hv,
          .sleeps (.inr (hv.phase_eq.trans hp)) (hv.owner_eq.trans ho)⟩)

theorem ctrlDecide_change (hp : s.phase = .cDecide) : Change s (ctrlDecide s) := by
  unfold ctrlDecide
  split
  · exact ⟨_, .logged _ .nil, .sleeps (.inl hp) ho⟩
  · obtain ⟨hq, hfloor⟩ := sanity_pass ‹_›
    exact ⟨s, .nil, .decides _ hp ho hq hfloor⟩

end

theorem ctrlStep_change : Change s s.ctrlStep := by
  unfold State.ctrlStep
  split
  · rename_i hen
    have ho : s.owner = .loop := by
      simp only [State.ctrlEnabled, Bool.and_eq_true, decide_eq_true_eq] at hen
      exact hen.1
    split
    · exact ctrlTempSend_change ho ‹_›
    · exact ctrlRpmSend_change ho ‹_›
    · exact ctrlDecide_change ho ‹_›
    · exact ctrlModeSend_change ho ‹_›
    all_goals exact Records.nil.change
  · exact Records.nil.change

/-- The window of a waiting host operation closes (R104). -/
theorem completePending_change (hp : s.phase = .hWait) {d : Duration} (ht : s.tmr = some (.win, d))
    (ev : Event) (bytes : List Byte) :
    Change s ((s.rxClose.emit ev).completePending bytes) := by
  unfold State.completePending
  split
  · exact ⟨(s.emit ev).done _ _ _, .logged _ (.logged _ .nil), .hostResumes hp⟩
  · exact ⟨((s.emit ev).emit _).done _ _ _, .logged _ (.logged _ (.logged _ .nil)),
      .hostResumes hp⟩
  · exact ⟨(s.emit ev).done _ _ _, .logged _ (.logged _ .nil), .hostResumes hp⟩
  · exact ⟨(s.emit ev).done _ _ _, .logged _ (.logged _ .nil), .hostResumes hp⟩
  · exact ⟨s.emit ev, .logged _ .nil, .shuts ht (.inr ⟨hp, ‹_›⟩)⟩

theorem windowClose_change {d : Duration} (ht : s.tmr = some (.win, d)) :
    Change s s.windowClose := by
  have hwin : Records s (s.emit (.win s.rxKind s.rxBuf)) := .logged _ .nil
  cases hp : s.phase with
  | hWait =>
    simp only [State.windowClose, hp]
    exact completePending_change hp ht _ _
  | cRtWait =>
    simp only [State.windowClose, hp]
    exact ⟨_, .logged (.tel s.cfg.pidTemp (respDecode s.cfg s.rxBuf)) hwin, .tempRead _ hp⟩
  | cRrWait =>
    simp only [State.windowClose, hp]
    exact ⟨_, .logged (.tel s.cfg.pidRpm (respDecode s.cfg s.rxBuf)) hwin, .rpmRead _ hp⟩
  | cModeWait =>
    simp only [State.windowClose, hp]
    exact ⟨_, hwin, .modeDone hp⟩
  | idle | cRtSend | cRrSend | cDecide | cModeSend | cSleep | halted =>
    simp only [State.windowClose, hp]
    exact ⟨_, hwin, .shuts ht (.inl (by simp [hp, Phase.isWindow]))⟩

theorem timerStep_change : Change s s.timerStep := by
  unfold State.timerStep
  split
  · exact windowClose_change ‹_›
  · exact ⟨s, .nil, .wakes ‹_›⟩
  · exact Records.nil.change

end

/-- Everything a step can do: it records, and the sequencer makes one transition. -/
theorem step_change {s t : State} (h : step s = .next t) : Change s t := by
  obtain ⟨-, ms, hform⟩ := step_form h
  have hchange : Change (s.withMoves ms) t := by
    cases hform with
    | refused _ => exact (Records.marked .nil).change
    | executed i hp ha => exact effectOf_change hp ha
    | arrived chunk => exact rxArrive_change chunk
    | expired _ => exact timerStep_change
    | sequenced _ => exact ctrlStep_change
  obtain ⟨v, hv, ht⟩ := hchange
  exact ⟨v, (Records.scheduled ms .nil).trans hv, ht⟩

end Sys2Proof.Machine.Transitions

namespace Sys2Proof.Machine.StateRules

open Transitions

/-! ### R36 as equations

The phase fixes the window, the timer, the pending operation, the fault and who may hold the
transport, so the invariants are read as equations in the phase. -/

/-- The timer that runs in a phase (R36 (d)). -/
def timerOf : Phase → Option TimerName
  | .hWait | .cRtWait | .cRrWait | .cModeWait => some .win
  | .cSleep => some .sleep
  | .idle | .cRtSend | .cRrSend | .cDecide | .cModeSend | .halted => none

/-- Who may hold the transport in a phase (R36 (b), (c)). -/
def mayOwn : Phase → Owner → Bool
  | .idle, o => decide (o ≠ .loop)
  | .hWait, o => decide (o = .host)
  | .halted, o => decide (o = .none)
  | .cRtSend, o | .cRtWait, o | .cRrSend, o | .cRrWait, o | .cDecide, o | .cModeSend, o
  | .cModeWait, o | .cSleep, o => decide (o = .loop)

/-- R36 (f). -/
def withinCap (s : State) : Prop := ∀ n, s.cfg.rxCap = some n → s.rxBuf.length ≤ n

/-- R36 (a) to (f), as equations. A conjunction, so that what a step records leaves it as it is by
definition. -/
def Settled (s : State) : Prop :=
  s.rxOpen = s.phase.isWindow ∧ s.tmr.map Prod.fst = timerOf s.phase ∧
  s.hPend.isSome = decide (s.phase = .hWait) ∧ s.fault.isSome = decide (s.phase = .halted) ∧
  mayOwn s.phase s.owner = true ∧ withinCap s

section
variable {s u v t : State}

theorem timer_armed_iff {name : TimerName} :
    (∃ d, s.tmr = some (name, d)) ↔ s.tmr.map Prod.fst = some name := by
  simp [Option.map_eq_some_iff]

theorem win_iff_isWindow (p : Phase) : timerOf p = some .win ↔ p.isWindow = true := by
  cases p <;> decide

theorem sleep_iff_cSleep (p : Phase) : timerOf p = some .sleep ↔ p = .cSleep := by
  cases p <;> decide

theorem Settled.inv (h : Settled s) : Inv s := by
  obtain ⟨hwin, htmr, hpend, hfault, hown, hcap⟩ := h
  refine
    { window := hwin
      loopOwner := ?_
      hostWaits := fun hp => by simpa [hp, mayOwn] using hown
      faulted := by simp [hfault]
      quiescent := fun hp => ?_
      winTimer := by rw [timer_armed_iff, htmr, win_iff_isWindow, hwin]
      sleepTimer := by rw [timer_armed_iff, htmr, sleep_iff_cSleep]
      pending := by simp [hpend]
      capacity := hcap }
  · cases hp : s.phase <;> simp_all [mayOwn, Phase.isCycle]
  · simp_all [mayOwn, timerOf, Phase.isWindow]

theorem settled_of_inv (h : Inv s) : Settled s := by
  refine ⟨h.window, ?_, ?_, ?_, ?_, h.capacity⟩
  · have hwin := h.winTimer
    have hsleep := h.sleepTimer
    rw [timer_armed_iff, h.window, ← win_iff_isWindow] at hwin
    rw [timer_armed_iff, ← sleep_iff_cSleep] at hsleep
    exact Option.ext fun name => match name with
      | .win => hwin
      | .sleep => hsleep
  · rw [Bool.eq_iff_iff, h.pending, decide_eq_true_iff]
  · rw [Bool.eq_iff_iff, h.faulted, decide_eq_true_iff]
  · have hloop := h.loopOwner
    have hhost := h.hostWaits
    have hquiet := h.quiescent
    cases hp : s.phase <;> simp_all [mayOwn, Phase.isCycle]

theorem inv_iff_settled : Inv s ↔ Settled s := ⟨settled_of_inv, Settled.inv⟩

theorem withinCap_nil (h : s.rxBuf = []) : withinCap s := by simp [withinCap, h]

/-- R102: an arrival is cut to the capacity. -/
theorem length_capTo_le {n : Nat} {cap : Option Nat} (h : cap = some n) (bs : List Byte) :
    (capTo cap bs).length ≤ n := by
  subst h
  exact List.length_take_le n bs

theorem settled_bare : Settled (bare s) ↔ Settled s := Iff.rfl

/-- What a step records has no part in R36. -/
theorem Settled.records (h : Settled u) (hr : Records u v) : Settled v := by
  rwa [← settled_bare, hr.bare_eq, settled_bare]

/-! ### Each transition keeps R36 -/

theorem mayOwn_of_isCycle {p : Phase} (h : p.isCycle = true) (o : Owner) :
    mayOwn p o = decide (o = .loop) := by
  cases p with
  | idle | hWait | halted => cases h
  | cRtSend | cRtWait | cRrSend | cRrWait | cDecide | cModeSend | cModeWait | cSleep => rfl

/-- From phase to phase of the cycle the loop keeps the transport and nothing is pending, so only the
window, the timer and the buffer are to be looked at. -/
theorem Settled.cycle (h : Settled v) (hv : v.phase.isCycle = true) (hc : t.phase.isCycle = true)
    (hkeep : t.owner = v.owner ∧ t.hPend = v.hPend ∧ t.fault = v.fault)
    (hwin : t.rxOpen = t.phase.isWindow) (htmr : t.tmr.map Prod.fst = timerOf t.phase)
    (hcap : withinCap t) : Settled t := by
  obtain ⟨-, -, hpend, hfault, hown, -⟩ := h
  obtain ⟨ho, hh, hf⟩ := hkeep
  have notWait {p : Phase} (hp : p.isCycle = true) : p ≠ .hWait := by rintro rfl; cases hp
  have notHalted {p : Phase} (hp : p.isCycle = true) : p ≠ .halted := by rintro rfl; cases hp
  refine ⟨hwin, htmr, ?_, ?_, ?_, hcap⟩
  · simpa [hh, notWait hv, notWait hc] using hpend
  · simpa [hf, notHalted hv, notHalted hc] using hfault
  · rwa [mayOwn_of_isCycle hc, ho, ← mayOwn_of_isCycle hv]

theorem Settled.transition (h : Settled v) (ht : Transition v t) : Settled t := by
  have ⟨hwin, htmr, hpend, hfault, hown, hcap⟩ := h
  cases ht with
  | stays => exact h
  | faults n _ => exact ⟨rfl, rfl, rfl, rfl, rfl, withinCap_nil rfl⟩
  | ownerSet o hp ho => exact ⟨hwin, htmr, hpend, hfault, by simp [hp, mayOwn, ho], hcap⟩
  | hostWaits p d hp ho =>
    exact ⟨rfl, rfl, rfl, by simpa [hp] using hfault, by simp [mayOwn, ho], withinCap_nil rfl⟩
  | hostResumes hp =>
    have ho : v.owner = .host := by simpa [hp, mayOwn] using hown
    exact ⟨rfl, rfl, rfl, by simpa [hp] using hfault, by simp [mayOwn, ho], withinCap_nil rfl⟩
  | loopStarts hp _ =>
    rw [hp] at hwin htmr hpend hfault
    exact ⟨hwin, htmr, hpend, hfault, rfl, hcap⟩
  | loopStops hp =>
    refine ⟨rfl, rfl, rfl, by simpa [hp] using hfault, rfl, fun n hn => ?_⟩
    change List.length (if v.rxOpen then [] else v.rxBuf) ≤ n
    split
    · exact Nat.zero_le n
    · exact hcap n hn
  | loopWaits d hk _ =>
    generalize hp : v.phase = p at hk
    cases hk <;>
      exact h.cycle (by rw [hp]; rfl) rfl ⟨rfl, rfl, rfl⟩ rfl rfl (withinCap_nil rfl)
  | tempFails hp _ | rpmFails hp _ | decides _ hp _ _ _ =>
    rw [hp] at hwin htmr
    exact h.cycle (by rw [hp]; rfl) rfl ⟨rfl, rfl, rfl⟩ hwin htmr hcap
  | tempRead _ hp | rpmRead _ hp | modeDone hp =>
    exact h.cycle (by rw [hp]; rfl) rfl ⟨rfl, rfl, rfl⟩ rfl rfl (withinCap_nil rfl)
  | sleeps hp _ =>
    obtain hp | hp := hp <;> rw [hp] at hwin <;>
      exact h.cycle (by rw [hp]; rfl) rfl ⟨rfl, rfl, rfl⟩ hwin rfl hcap
  | wakes ht =>
    have hp : v.phase = .cSleep := by rw [← sleep_iff_cSleep, ← htmr, ht]; rfl
    rw [hp] at hwin
    exact h.cycle (by rw [hp]; rfl) rfl ⟨rfl, rfl, rfl⟩ hwin rfl hcap
  | arrives chunk hw =>
    exact ⟨hwin, htmr, hpend, hfault, hown, fun n hn => length_capTo_le hn _⟩
  | shuts ht hp =>
    have hw : v.phase.isWindow = true := by rw [← win_iff_isWindow, ← htmr, ht]; rfl
    obtain hp | ⟨hp, hnone⟩ := hp
    · simp [hp] at hw
    · simp [hp, hnone] at hpend

/-- Settles O52: what a step records has no part in the invariants, and each transition of the
sequencer keeps them. -/
theorem everyStepKeepsStateInvariants : Obligations.EveryStepKeepsStateInvariants := by
  intro s t hs hstep
  obtain ⟨v, hrec, ht⟩ := step_change hstep
  exact (((settled_of_inv hs).records hrec).transition ht).inv

end

end Sys2Proof.Machine.StateRules

namespace Sys2Proof.Machine.StateRules

open Transitions OpsLaws

section
variable {s u v t : State}

/-! ### What no transition writes -/

/-- The frame register is written by what a step records alone (R95). -/
theorem transition_fr (ht : Transition v t) : t.fr = v.fr := by
  cases ht <;> rfl

/-- R33. -/
theorem transition_cfg (ht : Transition v t) : t.cfg = v.cfg := by
  cases ht <;> rfl

/-- R30. -/
theorem transition_refused (ht : Transition v t) : t.refused = v.refused := by
  cases ht <;> rfl

/-- R31: only fault entry adds an event of its own. -/
theorem transition_hist_prefix (ht : Transition v t) : v.hist <+: t.hist := by
  cases ht with
  | faults _ _ => exact List.prefix_append _ _
  | _ => exact List.prefix_rfl

/-- R29: only fault entry writes the fault. -/
theorem transition_fault (ht : Transition v t) : t.fault = v.fault ∨ v.phase ≠ .halted := by
  cases ht with
  | faults _ hp => exact .inr hp
  | _ => exact .inl rfl

/-! ### The frame register, R27 and R41 -/

/-- FR is canonical and holds nothing past its offsets. -/
def FrameFormed (s : State) : Prop :=
  s.fr.wf = true ∧ ∀ a, s.cfg.frameLen ≤ a → s.fr.read a = Memory.unlisted

/-- A frame that is built fits FR. -/
theorem FrameFormed.records (h : FrameFormed u) (hr : Records u v) : FrameFormed v := by
  induction hr with
  | nil => exact h
  | scheduled _ _ ih | logged _ _ ih | drew _ ih | marked _ ih => exact ih
  | built rid p hfits _ ih =>
    obtain ⟨hwf, hbound⟩ := ih
    exact ⟨MemoryLaws.writeList_wf hwf 0 _, fun a ha =>
      (read_writeFrame_outside hfits ha).trans (hbound a ha)⟩

theorem FrameFormed.transition (h : FrameFormed v) (ht : Transition v t) : FrameFormed t := by
  rwa [FrameFormed, transition_fr ht, transition_cfg ht]

/-! ### Windows, R101, R102 and R129 -/

/-- The kind of the window the loop waits for in a phase (R101). -/
def kindOf : Phase → Option RxKind
  | .cRtWait | .cRrWait => some .read
  | .cModeWait => some .cmd
  | .idle | .hWait | .cRtSend | .cRrSend | .cDecide | .cModeSend | .cSleep | .halted => none

/-- The buffer, the mode temperature and the window kinds, as `Inv2` has them. A conjunction, so that
what a step records leaves it as it is by definition. -/
def Windowed (s : State) : Prop :=
  (s.rxOpen = false → s.rxBuf = []) ∧
  (s.phase = .cModeSend → ∃ q, s.tCur = .val q ∧ s.cfg.sanityFloor ≤ q) ∧
  (∀ k, kindOf s.phase = some k → s.rxKind = k) ∧
  ∀ p, s.hPend = some p → s.rxKind = p.windowKind

theorem inv2_iff : Inv2 s ↔ Windowed s ∧ FrameFormed s := by
  constructor
  · intro h
    refine ⟨⟨h.bufferEmpty, h.modeTemp, ?_, h.pendingKind⟩, h.frameWf, h.frameBound⟩
    have hread := h.readKind
    have hcmd := h.cmdKind
    intro k hk
    cases hp : s.phase <;> simp_all [kindOf]
  · rintro ⟨⟨hbuf, htemp, hkind, hpend⟩, hwf, hbound⟩
    exact
      { bufferEmpty := hbuf
        modeTemp := htemp
        readKind := by rintro (hp | hp) <;> exact hkind .read (by rw [hp]; rfl)
        cmdKind := fun hp => hkind .cmd (by rw [hp]; rfl)
        pendingKind := hpend
        frameWf := hwf
        frameBound := hbound }

theorem windowed_bare : Windowed (bare s) ↔ Windowed s := Iff.rfl

theorem Windowed.records (h : Windowed u) (hr : Records u v) : Windowed v := by
  rwa [← windowed_bare, hr.bare_eq, windowed_bare]

/-- In the cycle no host operation is pending (R36 (e)). -/
theorem Settled.hPend_none (h : Settled s) (hp : s.phase ≠ .hWait) : s.hPend = none := by
  obtain ⟨-, -, hpend, -⟩ := h
  simpa [hp] using hpend

theorem Windowed.transition (h : Windowed v) (hs : Settled v) (ht : Transition v t) :
    Windowed t := by
  have ⟨hbuf, htemp, hkind, hpend⟩ := h
  cases ht with
  | stays | ownerSet _ _ _ => exact h
  | faults _ _ | hostResumes _ => exact ⟨fun _ => rfl, nofun, nofun, nofun⟩
  | hostWaits p _ _ _ => exact ⟨nofun, nofun, nofun, fun q hq => by cases hq; rfl⟩
  | loopStops _ =>
    refine ⟨fun _ => ?_, nofun, nofun, nofun⟩
    change (if v.rxOpen then [] else v.rxBuf) = []
    split
    · rfl
    · exact hbuf (Bool.eq_false_of_not_eq_true ‹_›)
  | loopWaits _ hk _ =>
    generalize hv : v.phase = pv at hk
    have hnone : v.hPend = none := hs.hPend_none (by cases hk <;> simp [hv])
    cases hk <;>
      exact ⟨nofun, nofun, fun _ hk' => Option.some.inj hk',
        fun _ hp => nomatch hnone.symm.trans hp⟩
  | loopStarts _ _ | tempFails _ _ | rpmFails _ _ | sleeps _ _ | wakes _ =>
    exact ⟨hbuf, nofun, nofun, hpend⟩
  | tempRead _ _ | rpmRead _ _ | modeDone _ => exact ⟨fun _ => rfl, nofun, nofun, hpend⟩
  | decides q _ _ hq hfloor => exact ⟨hbuf, fun _ => ⟨q, hq, hfloor⟩, nofun, hpend⟩
  | arrives _ hw => exact ⟨fun hshut => absurd (hw.symm.trans hshut) (by decide), htemp, hkind, hpend⟩
  | shuts _ _ => exact ⟨fun _ => rfl, htemp, hkind, hpend⟩

/-! ### The obligations -/

/-- Settles O53: FR changes only where a frame that fits is built, and each transition opens the
window of its kind or shuts it with an empty buffer. -/
theorem everyStepKeepsBuffersAndFrame : Obligations.EveryStepKeepsBuffersAndFrame := by
  intro s t hs hs2 hstep
  obtain ⟨hwindow, hframe⟩ := inv2_iff.mp hs2
  obtain ⟨v, hrec, ht⟩ := step_change hstep
  exact inv2_iff.mpr ⟨(hwindow.records hrec).transition ((settled_of_inv hs).records hrec) ht,
    (hframe.records hrec).transition ht⟩

/-- Settles O55: of the transitions of the sequencer two write the flag. -/
theorem fanActiveHasTwoWriters : Obligations.FanActiveHasTwoWriters := by
  intro s t hstep
  obtain ⟨v, hrec, ht⟩ := step_change hstep
  rw [← hrec.fanActive_eq, ← hrec.phase_eq, ← hrec.owner_eq, ← hrec.tCur_eq, ← hrec.cfg_eq]
  cases ht with
  | decides q hp ho hq hfloor => exact .inr (.inl ⟨hp, ho, rfl, q, hq, hfloor, rfl⟩)
  | loopStarts hp ho => exact .inr (.inr ⟨hp, ho, rfl, rfl, rfl⟩)
  | _ => exact .inl rfl

/-- Settles O56: only fault entry writes the fault, and it comes from a state that by R36 (c) has
none. -/
theorem configurationFixedAndMarksSticky : Obligations.ConfigurationFixedAndMarksSticky := by
  intro s t hs hstep
  obtain ⟨v, hrec, ht⟩ := step_change hstep
  refine ⟨(transition_cfg ht).trans hrec.cfg_eq,
    hrec.hist_prefix.trans (transition_hist_prefix ht),
    fun hmark => (transition_refused ht).trans (hrec.refused_of hmark), fun hfault => ?_⟩
  have hhalted : v.phase = .halted :=
    hrec.phase_eq.trans (hs.faulted.mp (Option.isSome_iff_ne_none.mpr hfault))
  obtain hkeep | hrun := transition_fault ht
  · exact hkeep.trans hrec.fault_eq
  · exact absurd hhalted hrun

/-- Settles O51: reset leaves phase IDLE with the window shut, nothing pending, FR and the history
empty. -/
theorem resetEstablishesInvariants : Obligations.ResetEstablishesInvariants := fun _ =>
  ⟨Settled.inv ⟨rfl, rfl, rfl, rfl, rfl, withinCap_nil rfl⟩,
    inv2_iff.mpr ⟨⟨fun _ => rfl, nofun, nofun, nofun⟩, MemoryLaws.wf_nil, fun _ _ => rfl⟩, nofun⟩

end

end Sys2Proof.Machine.StateRules

namespace Sys2Proof.Machine.Observation

open Transitions OpsLaws

/-! ### The two registers that no rule reads

The history (R31) and the fan RPM (R24, R138) are observed only, so a step is followed on two states
at once: one and the same but for what was observed before. -/

/-- The state with other observations: `h` before its history and, where one is given, another fan
RPM. -/
def observing (h : List Event) (r : Option TelemetryValue) (s : State) : State :=
  { s with hist := h ++ s.hist, rCur := r.getD s.rCur }

/-- The effect does the same whatever was observed; a fan RPM it writes is the same too. -/
def Unseeing (f : State → State) : Prop :=
  ∀ h r s, ∃ r', (r' = r ∨ r' = none) ∧ f (observing h r s) = observing h r' (f s)

/-- An effect that leaves the fan RPM. -/
theorem Unseeing.of_eq {f : State → State}
    (hf : ∀ h r s, f (observing h r s) = observing h r (f s)) : Unseeing f :=
  fun h r s => ⟨r, .inl rfl, hf h r s⟩

theorem Unseeing.id : Unseeing fun s => s := .of_eq fun _ _ _ => rfl

theorem Unseeing.comp {f g : State → State} (hg : Unseeing g) (hf : Unseeing f) :
    Unseeing fun s => g (f s) := by
  intro h r s
  obtain ⟨r', hr', hfs⟩ := hf h r s
  obtain ⟨r'', hr'', hgs⟩ := hg h r' (f s)
  exact ⟨r'', by rcases hr'' with rfl | rfl <;> simp [hr'], (congrArg g hfs).trans hgs⟩

/-- A branch on what is not observed. -/
theorem Unseeing.ite {c : State → Bool} {f g : State → State}
    (hc : ∀ h r s, c (observing h r s) = c s) (hf : Unseeing f) (hg : Unseeing g) :
    Unseeing fun s => if c s then f s else g s := by
  intro h r s
  simp only [hc]
  split
  · exact hf h r s
  · exact hg h r s

section
variable (h : List Event) (r : Option TelemetryValue) (s : State)

/-! ### The operations on the state -/

@[simp] theorem emit_observing (ev : Event) :
    (observing h r s).emit ev = observing h r (s.emit ev) := by
  simp [State.emit, observing]

@[simp] theorem done_observing (op : Opcode) (code : Status) (x : Result) :
    (observing h r s).done op code x = observing h r (s.done op code x) :=
  emit_observing h r s _

@[simp] theorem raiseFault_observing (c : FaultCode) (n : Nat) :
    (observing h r s).raiseFault c n = observing h r (s.raiseFault c n) := by
  simp [State.raiseFault, observing]

theorem sendFrame_observing (rid : Byte) (p : List Byte) :
    (observing h r s).sendFrame rid p =
      ((s.sendFrame rid p).1, observing h r (s.sendFrame rid p).2) := by
  obtain ⟨hlong, hs⟩ | ⟨hfits, hc, hs⟩ | ⟨hfits, hc, hs⟩ := sendFrame_cases s rid p <;> rw [hs]
  · rw [sendFrame_tooLong (s := observing h r s) hlong, raiseFault_observing]
  · rw [sendFrame_ok (s := observing h r s) hfits hc]
    exact congrArg (Sent.ok, ·) (emit_observing h r
      (s.writeFrame (frameOf s.cfg rid p)).answered (.tx (frameOf s.cfg rid p)))
  · exact sendFrame_noChannel (s := observing h r s) hfits hc

end

/-! ### The effects of the instructions -/

theorem emit_unseeing (ev : Event) : Unseeing fun s => s.emit ev :=
  .of_eq fun h r s => emit_observing h r s ev

theorem done_unseeing (op : Opcode) (code : Status) (x : Result) :
    Unseeing fun s => s.done op code x := emit_unseeing _

theorem answered_unseeing : Unseeing State.answered := .of_eq fun _ _ _ => rfl

theorem raiseFault_unseeing (c : FaultCode) (n : Nat) : Unseeing fun s => s.raiseFault c n :=
  .of_eq fun h r s => raiseFault_observing h r s c n

/-- A send reads nothing observed, so it leaves the matter to the operation's two continuations. -/
theorem afterSend_unseeing {ok noChannel : State → State} (hok : Unseeing ok)
    (hno : Unseeing noChannel) (rid : Byte) (p : List Byte) :
    Unseeing fun s => afterSend ok noChannel (s.sendFrame rid p) := by
  intro h r s
  simp only [sendFrame_observing]
  obtain ⟨sent, t⟩ := s.sendFrame rid p
  cases sent with
  | ok => exact hok h r t
  | noChannel => exact hno h r t
  | malformed => exact ⟨r, .inl rfl, rfl⟩

theorem sendEffect_unseeing (rid : Byte) (p : List Byte) : Unseeing (sendEffect rid p) :=
  afterSend_unseeing (done_unseeing _ _ _) (done_unseeing _ _ _) rid p

theorem getTelemetryEffect_unseeing (b : Byte) : Unseeing (getTelemetryEffect b) := fun h r s =>
  afterSend_unseeing (.of_eq fun _ _ _ => rfl) ((done_unseeing _ _ _).comp (emit_unseeing _))
    s.cfg.reportId (payloadReadParam b) h r s

theorem commandEffect_unseeing (op : Opcode) (pending : Pending) (p : List Byte) :
    Unseeing (commandEffect op pending p) := fun h r s =>
  afterSend_unseeing (.of_eq fun _ _ _ => rfl) (done_unseeing _ _ _) s.cfg.reportId p h r s

theorem buildframeEffect_unseeing (rid : Byte) (p : List Byte) :
    Unseeing (buildframeEffect rid p) :=
  .ite (c := fun s => tooLong s.cfg p) (fun _ _ _ => rfl) (raiseFault_unseeing _ _)
    (.of_eq fun h r s => done_observing h r (s.writeFrame (frameOf s.cfg rid p)) _ _ _)

theorem openEffect_unseeing : Unseeing openEffect :=
  .ite (c := State.found) (fun _ _ _ => rfl)
    ((done_unseeing _ _ _).comp (f := fun s => { s.answered with owner := .host })
      (.of_eq fun _ _ _ => rfl))
    ((done_unseeing _ _ _).comp answered_unseeing)

theorem closeEffect_unseeing : Unseeing closeEffect :=
  (done_unseeing _ _ _).comp (f := fun s => { s with owner := .none }) (.of_eq fun _ _ _ => rfl)

/-- LOOP_START writes the fan RPM, so what it was before is of no account. -/
theorem loopStartEffect_unseeing : Unseeing loopStartEffect :=
  .ite (c := State.found) (fun _ _ _ => rfl)
    ((done_unseeing _ _ _).comp
      (f := fun s => { s.answered with
        owner := .loop, fanActive := false, tCur := .undef, rCur := .undef, phase := .cRtSend })
      fun _ _ _ => ⟨none, .inr rfl, rfl⟩)
    ((done_unseeing _ _ _).comp answered_unseeing)

theorem loopStopEffect_unseeing : Unseeing loopStopEffect :=
  (done_unseeing _ _ _).comp ((emit_unseeing .stopped).comp (.of_eq fun _ _ _ => rfl))

theorem effectOf_unseeing (i : Instr) : Unseeing (effectOf i) := by
  cases i with
  | decode16 | encpct | aggPower => exact done_unseeing _ _ _
  | temp2pct t => exact .of_eq fun h r s => done_observing h r s _ _ _
  | buildframe rid p => exact buildframeEffect_unseeing rid p
  | openTransport => exact openEffect_unseeing
  | closeTransport => exact closeEffect_unseeing
  | send rid p => exact sendEffect_unseeing rid p
  | readresp d => exact .of_eq fun _ _ _ => rfl
  | getTelemetry b => exact getTelemetryEffect_unseeing b
  | setMode | rgboff => exact commandEffect_unseeing _ _ _
  | loopStart => exact loopStartEffect_unseeing
  | loopStop => exact loopStopEffect_unseeing
  | cmdReadParam | cmdSetFanMode | cmdRgbOff =>
    exact fun h r s => sendEffect_unseeing s.cfg.reportId _ h r s

/-! ### The effects of DEVICE, CTRL and TIMER -/

theorem rxArrive_unseeing (chunk : List Byte) : Unseeing fun s => s.rxArrive chunk :=
  .ite (c := State.rxOpen) (fun _ _ _ => rfl) (.of_eq fun _ _ _ => rfl) .id

theorem readFailed_unseeing (pid : Byte) : Unseeing fun s => s.readFailed pid :=
  (emit_unseeing _).comp (emit_unseeing _)

theorem ctrlTempSend_unseeing : Unseeing ctrlTempSend := fun h r s =>
  afterSend_unseeing (.of_eq fun _ _ _ => rfl)
    (Unseeing.comp (g := fun t => { t with tCur := .undef, phase := .cRrSend })
      (.of_eq fun _ _ _ => rfl) (readFailed_unseeing _))
    s.cfg.reportId (payloadReadParam s.cfg.pidTemp) h r s

/-- A failed RPM read writes the fan RPM. -/
theorem ctrlRpmSend_unseeing : Unseeing ctrlRpmSend := fun h r s =>
  afterSend_unseeing (.of_eq fun _ _ _ => rfl)
    (Unseeing.comp (g := fun t => { t with rCur := .undef, phase := .cDecide })
      (fun _ _ _ => ⟨none, .inr rfl, rfl⟩) (readFailed_unseeing _))
    s.cfg.reportId (payloadReadParam s.cfg.pidRpm) h r s

theorem enterSleep_unseeing : Unseeing State.enterSleep := .of_eq fun _ _ _ => rfl

theorem ctrlModeSend_unseeing : Unseeing ctrlModeSend := by
  intro h r s
  cases hq : s.tCur with
  | undef =>
    rw [ctrlModeSend_of_undef hq, ctrlModeSend_of_undef (s := observing h r s) hq]
    exact Unseeing.id h r s
  | val q =>
    rw [ctrlModeSend_of_val hq, ctrlModeSend_of_val (s := observing h r s) hq]
    exact afterSend_unseeing (.of_eq fun _ _ _ => rfl)
      (enterSleep_unseeing.comp (emit_unseeing _)) s.cfg.reportId _ h r s

theorem ctrlDecide_unseeing : Unseeing ctrlDecide := by
  intro h r s
  have hx : (observing h r s).tCur = s.tCur := rfl
  have hc : (observing h r s).cfg = s.cfg := rfl
  simp only [ctrlDecide, hx, hc]
  split
  · exact (enterSleep_unseeing.comp (emit_unseeing _)) h r s
  · exact ⟨r, .inl rfl, rfl⟩

theorem ctrlStep_unseeing : Unseeing State.ctrlStep := by
  refine .ite (c := State.ctrlEnabled) (fun _ _ _ => rfl) ?_ .id
  intro h r s
  have hp : (observing h r s).phase = s.phase := rfl
  simp only [hp]
  split
  · exact ctrlTempSend_unseeing h r s
  · exact ctrlRpmSend_unseeing h r s
  · exact ctrlDecide_unseeing h r s
  · exact ctrlModeSend_unseeing h r s
  all_goals exact Unseeing.id h r s

theorem completePending_unseeing (bytes : List Byte) :
    Unseeing fun s => s.completePending bytes := by
  intro h r s
  have hp : (observing h r s).hPend = s.hPend := rfl
  have resumed : Unseeing State.resume := .of_eq fun _ _ _ => rfl
  simp only [State.completePending, hp]
  split
  · exact (done_unseeing _ _ _).comp resumed h r s
  · exact (done_unseeing _ _ _).comp (resumed.comp (emit_unseeing _)) h r s
  · exact (done_unseeing _ _ _).comp resumed h r s
  · exact (done_unseeing _ _ _).comp resumed h r s
  · exact Unseeing.id h r s

/-- The close of the RPM window writes the fan RPM. -/
theorem windowClose_unseeing : Unseeing State.windowClose := by
  intro h r s
  have hp : (observing h r s).phase = s.phase := rfl
  have hwin : Unseeing fun t => t.rxClose.emit (.win s.rxKind s.rxBuf) :=
    (emit_unseeing _).comp (.of_eq fun _ _ _ => rfl)
  simp only [State.windowClose, hp]
  split
  · exact (completePending_unseeing _).comp hwin h r s
  · exact (Unseeing.comp
      (g := fun t => { t with tCur := respDecode s.cfg s.rxBuf, phase := .cRrSend })
      (.of_eq fun _ _ _ => rfl) ((emit_unseeing _).comp hwin)) h r s
  · exact (Unseeing.comp
      (g := fun t => { t with rCur := respDecode s.cfg s.rxBuf, phase := .cDecide })
      (fun _ _ _ => ⟨none, .inr rfl, rfl⟩) ((emit_unseeing _).comp hwin)) h r s
  · exact (enterSleep_unseeing.comp hwin) h r s
  all_goals exact hwin h r s

theorem timerStep_unseeing : Unseeing State.timerStep := by
  intro h r s
  have ht : (observing h r s).tmr = s.tmr := rfl
  simp only [State.timerStep, ht]
  split
  · exact windowClose_unseeing h r s
  · exact ⟨r, .inl rfl, rfl⟩
  · exact Unseeing.id h r s

/-! ### Moves and steps -/

/-- The outcome with its next state seen otherwise. -/
def afterwards (f : State → State) :
    Host.Outcome State Fault Refusal → Host.Outcome State Fault Refusal
  | .next t => .next (f t)
  | .fault x => .fault x
  | .refused x => .refused x

/-- The move does the same whatever was observed. -/
def UnseeingMove (m : State → Host.Outcome State Fault Refusal) : Prop :=
  ∀ h r s, ∃ r', (r' = r ∨ r' = none) ∧ m (observing h r s) = afterwards (observing h r') (m s)

/-- A move that only HALTED stops does no more than its effect. -/
theorem blockMove_unseeing {f : State → State} (hf : Unseeing f) : UnseeingMove (blockMove f) := by
  intro h r s
  have hp : (observing h r s).phase = s.phase := rfl
  simp only [blockMove, hp]
  split
  · exact ⟨r, .inl rfl, rfl⟩
  · obtain ⟨r', hr', hfs⟩ := hf h r s
    exact ⟨r', hr', congrArg _ hfs⟩

theorem admits_observing (i : Instr) (h : List Event) (r : Option TelemetryValue) (s : State) :
    admits i (observing h r s) = admits i s := by
  cases i <;> rfl

theorem refuse_unseeing : Unseeing State.refuse := .of_eq fun _ _ _ => rfl

/-- HOST's step is such a move: it executes or it marks the refusal. -/
theorem exec_eq_blockMove (i : Instr) :
    exec i = blockMove fun s => if admits i s then effectOf i s else s.refuse :=
  funext (ExecLaws.exec_eq i)

theorem exec_unseeing (i : Instr) : UnseeingMove (exec i) := by
  rw [exec_eq_blockMove]
  exact blockMove_unseeing (.ite (admits_observing i) (effectOf_unseeing i) refuse_unseeing)

theorem runMove_unseeing (m : Move) : UnseeingMove (runMove m) := by
  cases m with
  | offer o =>
    intro h r s
    simp only [runMove, hostMove]
    split
    · exact exec_unseeing _ h r s
    · exact blockMove_unseeing refuse_unseeing h r s
  | intr => exact exec_unseeing .loopStop
  | device chunk =>
    intro h r s
    obtain ⟨r', hr', hs⟩ := rxArrive_unseeing chunk h r s
    exact ⟨r', hr', congrArg _ hs⟩
  | timer => exact blockMove_unseeing timerStep_unseeing
  | ctrl => exact blockMove_unseeing ctrlStep_unseeing

theorem quietMove_unseeing : UnseeingMove quietMove :=
  blockMove_unseeing
    (.ite (c := State.ctrlEnabled) (fun _ _ _ => rfl) ctrlStep_unseeing timerStep_unseeing)

/-- A step does the same whatever was observed before it. -/
theorem step_unseeing : UnseeingMove step := by
  intro h r s
  have hc : (observing h r s).cfg = s.cfg := rfl
  have hm : (observing h r s).env = s.env := rfl
  simp only [step, nextMove, hc, hm]
  split
  · split
    · exact quietMove_unseeing h r s
    · rename_i m ms _
      exact runMove_unseeing m h r (s.withMoves ms)
  · exact ⟨r, .inl rfl, rfl⟩

/-- With the fan RPM left as it is, the same step with another past. -/
theorem step_observing_none (h : List Event) (s : State) :
    step (observing h none s) = afterwards (observing h none) (step s) := by
  obtain ⟨r', hr', hs⟩ := step_unseeing h none s
  rwa [show r' = none by simpa using hr'] at hs

/-! ### The obligations -/

/-- Settles O60: both pasts are put before the state with an empty history. -/
theorem historyIsObservationOnly : Obligations.HistoryIsObservationOnly := by
  intro s h
  have hs : observing s.hist none { s with hist := [] } = s := by simp [observing]
  have hh : observing h none { s with hist := [] } = { s with hist := h } := by simp [observing]
  have step_s := step_observing_none s.hist { s with hist := [] }
  have step_h := step_observing_none h { s with hist := [] }
  rw [hs] at step_s
  rw [hh] at step_h
  rw [step_s, step_h]
  cases step { s with hist := [] } with
  | next t =>
    refine ⟨fun u hu => ?_, fun _ => nofun, fun _ => nofun⟩
    cases hu
    exact ⟨t.hist, rfl, rfl⟩
  | fault x | refused x => simp [afterwards]

/-- Settles O59: the step with another fan RPM, the history as it is. -/
theorem rpmHasNoInfluence : Obligations.RpmHasNoInfluence := by
  intro s t r hstep
  obtain ⟨r', -, hs⟩ := step_unseeing [] (some r) s
  simp only [hstep, observing, afterwards, List.nil_append, Option.getD_some] at hs
  exact ⟨r'.getD t.rCur, hs⟩

end Sys2Proof.Machine.Observation

namespace Sys2Proof.Machine.Transmission

open Transitions OpsLaws ExecLaws

/-! ### The frames of a history, R31 and R40 -/

/-- The frame that left the block with an event. -/
@[simp] def frame? : Event → Option (List Byte)
  | .tx f => some f
  | .win _ _ | .tel _ _ | .skip _ | .cycleErr _ | .done _ _ _ | .fault _ | .stopped => none

/-- The frames that left the block, oldest first. -/
def sent (es : List Event) : List (List Byte) := es.filterMap frame?

@[simp] theorem sent_append (es es' : List Event) : sent (es ++ es') = sent es ++ sent es' :=
  List.filterMap_append

@[simp] theorem sent_nil : sent [] = [] := rfl

@[simp] theorem sent_cons (ev : Event) (es : List Event) :
    sent (ev :: es) = (frame? ev).toList ++ sent es := by
  cases ev <;> rfl

theorem mem_sent {f : List Byte} {es : List Event} : f ∈ sent es ↔ Event.tx f ∈ es := by
  rw [sent, List.mem_filterMap]
  constructor
  · rintro ⟨ev, hev, hf⟩
    cases ev with
    | tx g => cases hf; exact hev
    | _ => cases hf
  · exact fun h => ⟨_, h, rfl⟩

theorem wholeFrames_iff {s : State} :
    WholeFrames s ↔ ∀ f ∈ sent s.hist, f.length = s.cfg.frameLen := by
  simp only [WholeFrames, mem_sent]

/-! ### What a step transmits -/

/-- Who may transmit (R94, R126): the host in IDLE, or the loop in one of its send phases. -/
def Sender (s : State) : Prop :=
  (s.owner = .host ∧ s.phase = .idle) ∨
  (s.owner = .loop ∧ (s.phase = .cRtSend ∨ s.phase = .cRrSend ∨ s.phase = .cModeSend))

/-- Nothing is transmitted, or a sender transmits one frame that it has built (R95, R99). -/
def Transmits (s t : State) : Prop :=
  sent t.hist = sent s.hist ∨
  (Sender s ∧ ∃ rid p, 1 + p.length ≤ s.cfg.frameLen ∧
    sent t.hist = sent s.hist ++ [frameOf s.cfg rid p])

section
variable {s t : State}

/-- A send is the one place where a frame leaves; what the operation does next transmits nothing. -/
theorem afterSend_transmits (hs : Sender s) {rid : Byte} {p : List Byte}
    {ok noChannel : State → State}
    (hok : ∀ v, sent (ok v).hist = sent v.hist)
    (hno : ∀ v, sent (noChannel v).hist = sent v.hist) :
    Transmits s (afterSend ok noChannel (s.sendFrame rid p)) := by
  obtain ⟨-, h⟩ | ⟨hfits, -, h⟩ | ⟨-, -, h⟩ := sendFrame_cases s rid p <;> rw [h]
  · exact .inl (by simp [afterSend])
  · exact .inr ⟨hs, rid, p, hfits, (hok _).trans (by simp [State.answered])⟩
  · exact .inl (hno _)

/-! ### HOST's operations -/

theorem sendEffect_transmits (hs : Sender s) (rid : Byte) (p : List Byte) :
    Transmits s (sendEffect rid p s) :=
  sendEffect_eq (s := s) rid p ▸
    afterSend_transmits hs (fun _ => by simp) (fun _ => by simp)

theorem getTelemetryEffect_transmits (hs : Sender s) (b : Byte) :
    Transmits s (getTelemetryEffect b s) :=
  getTelemetryEffect_eq (s := s) b ▸
    afterSend_transmits hs (fun _ => rfl) (fun _ => by simp)

theorem commandEffect_transmits (hs : Sender s) (op : Opcode) (pending : Pending)
    (p : List Byte) : Transmits s (commandEffect op pending p s) :=
  commandEffect_eq (s := s) op pending p ▸
    afterSend_transmits hs (fun _ => rfl) (fun _ => by simp)

theorem sent_buildframeEffect (rid : Byte) (p : List Byte) :
    sent (buildframeEffect rid p s).hist = sent s.hist := by
  unfold buildframeEffect
  split <;> simp

theorem sent_openEffect : sent (openEffect s).hist = sent s.hist := by
  unfold openEffect
  split <;> simp [State.answered]

theorem sent_loopStartEffect : sent (loopStartEffect s).hist = sent s.hist := by
  unfold loopStartEffect
  split <;> simp [State.answered]

theorem sender_of_admitsTransport (h : s.admitsTransport .host = true) : Sender s :=
  .inl (admitsTransport_iff.mp h).symm

theorem effectOf_transmits {i : Instr} (h : admits i s = true) : Transmits s (effectOf i s) := by
  cases i with
  | decode16 | encpct | temp2pct | aggPower => exact .inl (by simp [effectOf])
  | buildframe rid p => exact .inl (sent_buildframeEffect rid p)
  | openTransport => exact .inl sent_openEffect
  | closeTransport => exact .inl (by simp [effectOf, closeEffect])
  | readresp d => exact .inl rfl
  | loopStart => exact .inl sent_loopStartEffect
  | loopStop => exact .inl (by simp [effectOf, loopStopEffect])
  | getTelemetry b => exact getTelemetryEffect_transmits (sender_of_admitsTransport h) b
  | setMode mode speed =>
    exact commandEffect_transmits
      (sender_of_admitsTransport (Bool.and_eq_true_iff.mp h).2) _ _ _
  | rgboff => exact commandEffect_transmits (sender_of_admitsTransport h) _ _ _
  | send | cmdReadParam | cmdSetFanMode | cmdRgbOff =>
    exact sendEffect_transmits (sender_of_admitsTransport h) _ _

/-! ### DEVICE, CTRL and TIMER -/

theorem sent_rxArrive (chunk : List Byte) : sent (s.rxArrive chunk).hist = sent s.hist := by
  unfold State.rxArrive
  split <;> rfl

theorem ctrlTempSend_transmits (hs : Sender s) : Transmits s (ctrlTempSend s) :=
  ctrlTempSend_eq (s := s) ▸
    afterSend_transmits hs (fun _ => rfl) (fun _ => by simp [State.readFailed])

theorem ctrlRpmSend_transmits (hs : Sender s) : Transmits s (ctrlRpmSend s) :=
  ctrlRpmSend_eq (s := s) ▸
    afterSend_transmits hs (fun _ => rfl) (fun _ => by simp [State.readFailed])

theorem ctrlModeSend_transmits (hs : Sender s) : Transmits s (ctrlModeSend s) := by
  cases hq : s.tCur with
  | undef => exact .inl (by rw [ctrlModeSend_of_undef hq])
  | val q =>
    exact ctrlModeSend_of_val hq ▸
      afterSend_transmits hs (fun _ => rfl) (fun _ => by simp)

theorem sent_ctrlDecide : sent (ctrlDecide s).hist = sent s.hist := by
  unfold ctrlDecide
  split <;> simp

theorem ctrlStep_transmits : Transmits s s.ctrlStep := by
  unfold State.ctrlStep
  split
  · rename_i hen
    have ho : s.owner = .loop := by
      simp only [State.ctrlEnabled, Bool.and_eq_true, decide_eq_true_eq] at hen
      exact hen.1
    split
    · exact ctrlTempSend_transmits (.inr ⟨ho, .inl ‹_›⟩)
    · exact ctrlRpmSend_transmits (.inr ⟨ho, .inr (.inl ‹_›)⟩)
    · exact .inl sent_ctrlDecide
    · exact ctrlModeSend_transmits (.inr ⟨ho, .inr (.inr ‹_›)⟩)
    all_goals exact .inl rfl
  · exact .inl rfl

theorem sent_completePending (bytes : List Byte) :
    sent (s.completePending bytes).hist = sent s.hist := by
  unfold State.completePending
  split <;> simp

theorem sent_windowClose : sent s.windowClose.hist = sent s.hist := by
  unfold State.windowClose
  split <;> simp [sent_completePending]

theorem sent_timerStep : sent s.timerStep.hist = sent s.hist := by
  unfold State.timerStep
  split
  · exact sent_windowClose
  all_goals rfl

/-- Everything a step can transmit (R40, R94, R99). -/
theorem step_transmits (h : step s = .next t) : Transmits s t := by
  obtain ⟨-, ms, hform⟩ := step_form h
  have hmoved : Transmits (s.withMoves ms) t := by
    cases hform with
    | refused _ => exact .inl rfl
    | executed i _ ha => exact effectOf_transmits ha
    | arrived chunk => exact .inl (sent_rxArrive chunk)
    | expired _ => exact .inl sent_timerStep
    | sequenced _ => exact ctrlStep_transmits
  exact hmoved

theorem step_cfg (h : step s = .next t) : t.cfg = s.cfg := by
  obtain ⟨v, hrec, ht⟩ := step_change h
  exact (StateRules.transition_cfg ht).trans hrec.cfg_eq

end

/-! ### The obligation -/

/-- Settles O54: a step transmits at most one frame, and that one was built whole. -/
theorem everyFrameIsWhole : Obligations.EveryFrameIsWhole := by
  intro s t hs hstep
  rw [wholeFrames_iff] at hs ⊢
  rw [step_cfg hstep]
  obtain hnone | ⟨-, rid, p, hfits, hone⟩ := step_transmits hstep
  · rwa [hnone]
  · intro f hf
    rw [hone, List.mem_append, List.mem_singleton] at hf
    obtain hold | rfl := hf
    · exact hs f hold
    · exact frameOf_length hfits

end Sys2Proof.Machine.Transmission

namespace Sys2Proof.WirePayload

open Machine

/-! ### Bytes of a payload, R70

A reader of a frame sees the bytes of a payload and zeros after them, so it tells two payloads apart
only by `payloadAt`. -/

theorem payloadAt_of_length_le {p : List Byte} {i : Nat} (h : p.length ≤ i) :
    payloadAt p i = 0#8 :=
  List.getD_eq_default p _ h

theorem getElem_eq_payloadAt {p : List Byte} {i : Nat} (h : i < p.length) :
    p[i] = payloadAt p i :=
  (List.getD_eq_getElem p _ h).symm

@[simp] theorem payloadAt_append_zeros (p : List Byte) (n i : Nat) :
    payloadAt (p ++ zeros n) i = payloadAt p i := by
  rcases Nat.lt_or_ge i p.length with h | h
  · exact List.getD_append p _ _ i h
  · rw [payloadAt_of_length_le h, payloadAt, zeros, List.getD_append_right p _ _ i h,
      List.getD_eq_getElem?_getD, List.getElem?_getD_replicate_default_eq]

/-- "All bytes after the payload are 0x00" (R70). -/
theorem zeroFrom_iff {n : Nat} {p : List Byte} :
    zeroFrom n p = true ↔ ∀ i, n ≤ i → payloadAt p i = 0#8 := by
  simp only [zeroFrom, List.all_eq_true, beq_iff_eq]
  constructor
  · intro h i hi
    obtain ⟨j, rfl⟩ := Nat.exists_eq_add_of_le hi
    rcases Nat.lt_or_ge (n + j) p.length with hlt | hge
    · rw [← getElem_eq_payloadAt hlt]
      exact h _ (List.mem_drop_iff_getElem.mpr ⟨j, by omega, rfl⟩)
    · exact payloadAt_of_length_le hge
  · intro h b hb
    obtain ⟨i, hi, rfl⟩ := List.mem_drop_iff_getElem.mp hb
    rw [getElem_eq_payloadAt]
    exact h _ (Nat.le_add_right ..)

/-- Two payloads are equal but for trailing zeros. -/
def SamePadded (p q : List Byte) : Prop := ∃ m n, p ++ zeros m = q ++ zeros n

theorem samePadded_iff {p q : List Byte} :
    SamePadded p q ↔ ∀ i, payloadAt p i = payloadAt q i := by
  constructor
  · rintro ⟨m, n, h⟩ i
    rw [← payloadAt_append_zeros p m, h, payloadAt_append_zeros]
  · intro h
    refine ⟨q.length, p.length, List.ext_getElem ?_ fun i hp hq => ?_⟩
    · simp [zeros, Nat.add_comm]
    · rw [getElem_eq_payloadAt, getElem_eq_payloadAt, payloadAt_append_zeros,
        payloadAt_append_zeros, h]

/-! ### The wire decoder, R70 -/

theorem decodeWire_congr {p q : List Byte} (h : SamePadded p q) : decodeWire p = decodeWire q := by
  have hat := samePadded_iff.mp h
  have hzero : ∀ n, zeroFrom n p = zeroFrom n q := fun n => by
    rw [Bool.eq_iff_iff, zeroFrom_iff, zeroFrom_iff]
    simp only [hat]
  simp only [decodeWire, hat, hzero]

theorem decodeWire_append_zeros (p : List Byte) (n : Nat) :
    decodeWire (p ++ zeros n) = decodeWire p :=
  decodeWire_congr (samePadded_iff.mpr (payloadAt_append_zeros p n))

@[simp] theorem decodeWire_readParam (b : Byte) :
    decodeWire (payloadReadParam b) = .ok (.cmdReadParam b) := rfl

@[simp] theorem decodeWire_fanMode (param1 param2 : Byte) :
    decodeWire (payloadFanMode param1 param2) = .ok (.cmdSetFanMode param1 param2) := rfl

@[simp] theorem decodeWire_rgbOff : decodeWire payloadRgbOff = .ok .cmdRgbOff := rfl

/-- Everything the wire decoder can answer, and on which payloads. -/
theorem decodeWire_cases (p : List Byte) :
    (∃ b, SamePadded p (payloadReadParam b) ∧ decodeWire p = .ok (.cmdReadParam b)) ∨
    (∃ param1 param2, SamePadded p (payloadFanMode param1 param2) ∧
      decodeWire p = .ok (.cmdSetFanMode param1 param2)) ∨
    (SamePadded p payloadRgbOff ∧ decodeWire p = .ok .cmdRgbOff) ∨
    decodeWire p = .error .undefinedCommand := by
  unfold decodeWire
  split
  next h =>
    obtain ⟨h0, hz⟩ := h
    refine .inl ⟨_, samePadded_iff.mpr fun i => ?_, rfl⟩
    match i with
    | 0 => exact h0
    | 1 => rfl
    | i + 2 => exact zeroFrom_iff.mp hz _ (Nat.le_add_left ..)
  split
  next h =>
    obtain ⟨h0, h1, hz⟩ := h
    refine .inr (.inl ⟨_, _, samePadded_iff.mpr fun i => ?_, rfl⟩)
    match i with
    | 0 => exact h0
    | 1 => exact h1
    | 2 | 3 => rfl
    | i + 4 => exact zeroFrom_iff.mp hz _ (Nat.le_add_left ..)
  split
  next h =>
    obtain ⟨h0, h1, h2, hz⟩ := h
    refine .inr (.inr (.inl ⟨samePadded_iff.mpr fun i => ?_, rfl⟩))
    match i with
    | 0 => exact h0
    | 1 => exact h1
    | 2 => exact h2
    | 3 | 4 | 5 | i + 6 => exact zeroFrom_iff.mp hz _ (by omega)
  · exact .inr (.inr (.inr rfl))

/-- A payload is no command exactly when it is none of the three but for trailing zeros. -/
theorem decodeWire_undefined_iff {p : List Byte} :
    decodeWire p = .error .undefinedCommand ↔
      (∀ b, ¬ SamePadded p (payloadReadParam b)) ∧
      (∀ param1 param2, ¬ SamePadded p (payloadFanMode param1 param2)) ∧
      ¬ SamePadded p payloadRgbOff := by
  constructor
  · intro h
    refine ⟨fun b hp => ?_, fun param1 param2 hp => ?_, fun hp => ?_⟩ <;>
      simp [decodeWire_congr hp] at h
  · rintro ⟨hread, hfan, hrgb⟩
    obtain ⟨b, hp, -⟩ | ⟨param1, param2, hp, -⟩ | ⟨hp, -⟩ | h := decodeWire_cases p
    · exact absurd hp (hread b)
    · exact absurd hp (hfan param1 param2)
    · exact absurd hp hrgb
    · exact h

/-! ### Frames, R70 and R95 -/

/-- A reader of a whole frame reads its payload: the padding is zeros. -/
theorem readFrameCommand_frameOf (c : Cfg) (rid : Byte) (p : List Byte) :
    readFrameCommand (frameOf c rid p) = decodeWire p :=
  decodeWire_append_zeros p _

/-! ### The obligations -/

/-- Settles O5: the decoder sees no difference between a payload and the payload padded. -/
theorem frameReaderRecoversCommand : Obligations.FrameReaderRecoversCommand := by
  refine ⟨fun c rid b param1 param2 _ => ?_, fun p m n => ?_⟩
  · simp only [readFrameCommand_frameOf, decodeWire_readParam, decodeWire_fanMode,
      decodeWire_rgbOff, and_self]
  · exact ⟨fun b h => decodeWire_congr ⟨m, n, h⟩, fun _ _ h => decodeWire_congr ⟨m, n, h⟩,
      fun h => decodeWire_congr ⟨m, n, h⟩⟩

/-- Settles O6: what the zeros add to the payload, the padding loses. -/
theorem trailingZerosGiveSameFrame : Obligations.TrailingZerosGiveSameFrame := by
  intro c rid p n hfits
  have hpad : n + (c.frameLen - 1 - (p.length + n)) = c.frameLen - 1 - p.length := by omega
  simp only [frameOf, zeros, List.append_assoc, List.length_append, List.length_replicate,
    List.replicate_append_replicate, hpad]

end Sys2Proof.WirePayload

namespace Sys2Proof.Presentation

open Machine WirePayload

/-! ### One operand read, R72 and R76 -/

section
variable {x : Operand}

theorem asByte_of_lt {n : Nat} (h : n < 256) : (Operand.byte n).asByte = .ok (BitVec.ofNat 8 n) :=
  if_pos h

theorem asByte_of_le {n : Nat} (h : 256 ≤ n) : (Operand.byte n).asByte = .error .byteRange :=
  if_neg (Nat.not_lt.mpr h)

@[simp] theorem asByte_ofByte (b : Byte) : (Operand.ofByte b).asByte = .ok b := by
  rw [Operand.ofByte, asByte_of_lt b.isLt, BitVec.ofNat_toNat, BitVec.setWidth_eq]

theorem asByte_of_ne (h : ∀ n, x ≠ .byte n) : x.asByte = .error .operandType := by
  cases x with
  | byte n => exact absurd rfl (h n)
  | num | payload | mode | tel => rfl

@[simp] theorem asPayload_ofBytes (p : List Byte) : (Operand.ofBytes p).asPayload = .ok p := by
  have hrange : (p.map BitVec.toNat).all (fun n => decide (n < 256)) = true := by
    simp only [List.all_map, List.all_eq_true, Function.comp_apply, decide_eq_true_eq]
    exact fun b _ => b.isLt
  simp only [Operand.ofBytes, Operand.asPayload, hrange, if_true, List.map_map]
  exact congrArg Except.ok (p.map_id'' fun b => by simp)

theorem asPayload_of_mem {p : List Nat} {n : Nat} (hn : 256 ≤ n) (hp : n ∈ p) :
    (Operand.payload p).asPayload = .error .byteRange := by
  refine if_neg fun hall => ?_
  have := of_decide_eq_true (List.all_eq_true.mp hall n hp)
  omega

theorem asPayload_of_ne (h : ∀ p, x ≠ .payload p) : x.asPayload = .error .operandType := by
  cases x with
  | payload p => exact absurd rfl (h p)
  | byte | num | mode | tel => rfl

theorem asRat_of_ne (h : ∀ y, x ≠ .num y) : x.asRat = .error .operandType := by
  cases x with
  | num y => exact absurd rfl (h y)
  | byte | payload | mode | tel => rfl

@[simp] theorem asDuration_val (d : Duration) :
    (Operand.num (.finite d.val)).asDuration = .ok d :=
  dif_pos d.property

theorem asDuration_of_neg {q : Rat} (h : q < 0) :
    (Operand.num (.finite q)).asDuration = .error .negativeDuration :=
  dif_neg (not_le.mpr h)

theorem asDuration_of_ne (h : ∀ y, x ≠ .num y) : x.asDuration = .error .operandType := by
  cases x with
  | num y => exact absurd rfl (h y)
  | byte | payload | mode | tel => rfl

theorem asMode_of_ne (h : ∀ m, x ≠ .mode m) : x.asMode = .error .operandType := by
  cases x with
  | mode m => exact absurd rfl (h m)
  | byte | num | payload | tel => rfl

theorem asTel_of_ne (h : ∀ v, x ≠ .tel v) :
    x.asTel = .error (if x = .num .nonFinite then .nonFinite else .operandType) := by
  cases x with
  | tel v => exact absurd rfl (h v)
  | num y => cases y <;> rfl
  | byte | payload | mode => rfl

end

/-! ### Selectors, R75 -/

theorem opcodeOf_opsel (op : Opcode) : opcodeOf op.opsel = some op := by
  cases op <;> rfl

/-- R75: the fourteen selectors are 0x01 to 0x0E, so every other byte is reserved. -/
theorem opcodeOf_eq_none_iff (b : Byte) :
    opcodeOf b = none ↔ b = 0x00#8 ∨ 0x0F ≤ b.toNat := by
  simp only [opcodeOf, List.find?_eq_none, beq_iff_eq, Opcode.all, List.forall_mem_cons,
    List.not_mem_nil, false_imp_iff, implies_true, and_true, Opcode.opsel, ← BitVec.toNat_inj,
    BitVec.toNat_ofNat]
  omega

theorem decode_of_reserved {b : Byte} (h : b = 0x00#8 ∨ 0x0F ≤ b.toNat) (operands : List Operand) :
    decode (.hostop b operands) = .error .reservedOpsel := by
  simp only [decode, decodeHostop, (opcodeOf_eq_none_iff b).mpr h]

theorem decode_opsel (op : Opcode) (operands : List Operand) :
    decode (.hostop op.opsel operands) = decodeOperands op operands := by
  simp only [decode, decodeHostop, opcodeOf_opsel]

/-! ### The operands of each selector, R76 -/

section
variable (x y : Operand)

theorem decode_decode16 : decode (.hostop 0x01#8 [x, y]) =
    x.asByte.bind fun lo => y.asByte.map fun hi => .decode16 lo hi := rfl
theorem decode_encpct : decode (.hostop 0x02#8 [x]) = x.asRat.map .encpct := rfl
theorem decode_temp2pct : decode (.hostop 0x03#8 [x]) = x.asRat.map .temp2pct := rfl
theorem decode_buildframe : decode (.hostop 0x04#8 [x, y]) =
    x.asByte.bind fun rid => y.asPayload.map fun p => .buildframe rid p := rfl
theorem decode_send : decode (.hostop 0x07#8 [x, y]) =
    x.asByte.bind fun rid => y.asPayload.map fun p => .send rid p := rfl
theorem decode_readresp : decode (.hostop 0x08#8 [x]) = x.asDuration.map .readresp := rfl
theorem decode_getTelemetry : decode (.hostop 0x09#8 [x]) = x.asByte.map .getTelemetry := rfl
theorem decode_setMode : decode (.hostop 0x0A#8 [x]) =
    x.asMode.bind fun m => decodeSetMode m none := rfl
theorem decode_setMode_speed : decode (.hostop 0x0A#8 [x, y]) =
    x.asMode.bind fun m => decodeSetMode m (some y) := rfl

end

/-- AGG_POWER of the six values read. -/
def aggPowerOf : List TelemetryValue → Except DecodeError Instr
  | [v12, v5, v33, i12, i5, i33] => .ok (.aggPower v12 v5 v33 i12 i5 i33)
  | _ => .error .operandCount

/-- AGG_POWER reads its six operands in order. -/
theorem decode_aggPower (operands : List Operand) (h : operands.length = 6) :
    decode (.hostop 0x0C#8 operands) = operands.mapM Operand.asTel >>= aggPowerOf :=
  match operands, h with
  | [_, _, _, _, _, _], _ => by
    simp only [List.mapM_cons, List.mapM_nil, bind_assoc, pure_bind]
    rfl

/-- Of a number of operands that is not its own, an operation reads none. -/
theorem decodeOperands_count (op : Opcode) (operands : List Operand) :
    operands.length = (zeroOperands op).length ∨ (op = .setMode ∧ operands.length = 2) ∨
      decodeOperands op operands = .error .operandCount := by
  unfold decodeOperands
  split <;> simp [zeroOperands]

/-! ### The shape of a SET_MODE, R76 -/

theorem decodeSetMode_manual (x : Operand) :
    decodeSetMode .manual (some x) = x.asRat.map fun q => .setMode .manual (some q) := rfl

theorem decodeSetMode_none {m : FanMode} (h : m ≠ .manual) :
    decodeSetMode m none = .ok (.setMode m none) := by
  simp only [decodeSetMode, decide_eq_false h]

theorem decodeSetMode_speed {m : FanMode} (h : m ≠ .manual) (x : Operand) :
    decodeSetMode m (some x) = .error .speedNotTaken := by
  simp only [decodeSetMode, decide_eq_false h]

/-! ### Well-formed results, R72 and R76 -/

/-- What is read, if anything, is a well-formed instruction. -/
def ReadsWellFormed (r : Except DecodeError Instr) : Prop := ∀ i, r = .ok i → i.wellFormed = true

theorem ReadsWellFormed.ok {i : Instr} (h : i.wellFormed = true) : ReadsWellFormed (.ok i) := by
  rintro _ ⟨⟩
  exact h

theorem ReadsWellFormed.error (e : DecodeError) : ReadsWellFormed (.error e) := nofun

theorem ReadsWellFormed.bind {α : Type} {f : α → Except DecodeError Instr}
    (r : Except DecodeError α) (h : ∀ a, ReadsWellFormed (f a)) : ReadsWellFormed (r.bind f) := by
  cases r with
  | ok a => exact h a
  | error e => exact .error e

theorem ReadsWellFormed.map {α : Type} {f : α → Instr} (r : Except DecodeError α)
    (h : ∀ a, (f a).wellFormed = true) : ReadsWellFormed (r.map f) := by
  cases r with
  | ok a => exact .ok (h a)
  | error e => exact .error e

theorem decodeSetMode_readsWellFormed (m : FanMode) (speed : Option Operand) :
    ReadsWellFormed (decodeSetMode m speed) := by
  unfold decodeSetMode
  split
  next hm => exact .map _ fun _ => by simp [Instr.wellFormed, hm]
  next => exact .error _
  next hm => exact .ok (by simp [Instr.wellFormed, hm])
  next => exact .error _

theorem decodeOperands_readsWellFormed (op : Opcode) (operands : List Operand) :
    ReadsWellFormed (decodeOperands op operands) := by
  unfold decodeOperands
  split
  -- The arms of the table, by number: SET_MODE's two shapes; then the rows that test no shape.
  case h_10 | h_11 => exact .bind _ fun _ => decodeSetMode_readsWellFormed _ _
  case h_1 | h_4 | h_7 => exact .bind _ fun _ => .map _ fun _ => rfl
  case h_2 | h_3 | h_8 | h_9 => exact .map _ fun _ => rfl
  case h_5 | h_6 | h_12 | h_14 | h_15 => exact .ok rfl
  case h_13 =>
    exact .bind _ fun _ => .bind _ fun _ => .bind _ fun _ => .bind _ fun _ => .bind _ fun _ =>
      .map _ fun _ => rfl
  case h_16 => exact .error _

theorem decodeWire_readsWellFormed (p : List Byte) : ReadsWellFormed (decodeWire p) := by
  obtain ⟨b, -, h⟩ | ⟨param1, param2, -, h⟩ | ⟨-, h⟩ | h := decodeWire_cases p <;> rw [h]
  · exact .ok rfl
  · exact .ok rfl
  · exact .ok rfl
  · exact .error _

/-! ### Rejected operands, R72 and R76

An operand that does not read as what its position takes is the offer's error, where the operands
before it read. -/

section
variable {x : Operand} {e : DecodeError}

theorem byte_operand_rejected (h : x.asByte = .error e) :
    decode (.hostop 0x09#8 [x]) = .error e ∧
    (∀ y, decode (.hostop 0x01#8 [x, y]) = .error e ∧ decode (.hostop 0x04#8 [x, y]) = .error e ∧
      decode (.hostop 0x07#8 [x, y]) = .error e) ∧
    ∀ k, k < 256 → decode (.hostop 0x01#8 [.byte k, x]) = .error e := by
  refine ⟨?_, fun y => ⟨?_, ?_, ?_⟩, fun k hk => ?_⟩
  · simp only [decode_getTelemetry, h, Except.map]
  · simp only [decode_decode16, h, Except.bind]
  · simp only [decode_buildframe, h, Except.bind]
  · simp only [decode_send, h, Except.bind]
  · simp only [decode_decode16, asByte_of_lt hk, h, Except.bind, Except.map]

theorem payload_operand_rejected (h : x.asPayload = .error e) {k : Nat} (hk : k < 256) :
    decode (.hostop 0x04#8 [.byte k, x]) = .error e ∧
    decode (.hostop 0x07#8 [.byte k, x]) = .error e := by
  constructor
  · simp only [decode_buildframe, asByte_of_lt hk, h, Except.bind, Except.map]
  · simp only [decode_send, asByte_of_lt hk, h, Except.bind, Except.map]

theorem number_operand_rejected (hrat : x.asRat = .error e) (hduration : x.asDuration = .error e) :
    decode (.hostop 0x02#8 [x]) = .error e ∧ decode (.hostop 0x03#8 [x]) = .error e ∧
    decode (.hostop 0x08#8 [x]) = .error e ∧
    decode (.hostop 0x0A#8 [.mode (some .manual), x]) = .error e := by
  refine ⟨?_, ?_, ?_, ?_⟩
  · simp only [decode_encpct, hrat, Except.map]
  · simp only [decode_temp2pct, hrat, Except.map]
  · simp only [decode_readresp, hduration, Except.map]
  · simp only [decode_setMode_speed, Operand.asMode, decodeSetMode_manual, hrat, Except.bind,
      Except.map]

theorem mode_operand_rejected (h : x.asMode = .error e) :
    decode (.hostop 0x0A#8 [x]) = .error e ∧ ∀ y, decode (.hostop 0x0A#8 [x, y]) = .error e := by
  refine ⟨?_, fun y => ?_⟩
  · simp only [decode_setMode, h, Except.bind]
  · simp only [decode_setMode_speed, h, Except.bind]

theorem mapM_asTel_rejected (vs : List TelemetryValue) (rest : List Operand)
    (h : x.asTel = .error e) :
    (vs.map Operand.tel ++ x :: rest).mapM Operand.asTel = .error e := by
  induction vs with
  | nil => simp only [List.map_nil, List.nil_append, List.mapM_cons, h]; rfl
  | cons v vs ih =>
    simp only [List.map_cons, List.cons_append, List.mapM_cons, ih]
    rfl

theorem tel_operand_rejected (vs : List TelemetryValue) (rest : List Operand)
    (hlen : vs.length + 1 + rest.length = 6) (h : x.asTel = .error e) :
    decode (.hostop 0x0C#8 (vs.map Operand.tel ++ x :: rest)) = .error e := by
  have hsix : (vs.map Operand.tel ++ x :: rest).length = 6 := by
    simp only [List.length_append, List.length_map, List.length_cons]
    omega
  rw [decode_aggPower _ hsix, mapM_asTel_rejected vs rest h]
  rfl

end

theorem decode_wrong_count {op : Opcode} {operands : List Operand}
    (h : operands.length ≠ (zeroOperands op).length) (hset : op = .setMode → operands.length ≠ 2) :
    decode (.hostop op.opsel operands) = .error .operandCount := by
  obtain hlen | ⟨hop, hlen⟩ | herr := decodeOperands_count op operands
  · exact absurd hlen h
  · exact absurd hlen (hset hop)
  · rw [decode_opsel, herr]

/-! ### Rejected offers presented, R14 and R72 -/

theorem hostMove_of_decode_error {o : Offer} {e : DecodeError} (h : decode o = .error e)
    (s : State) : hostMove o s = hostOp false id s := by
  simp only [hostMove, h]

theorem step_of_decode_error {s : State} {o : Offer} {e : DecodeError} {ms : List Move}
    (hlegal : s.cfg.Legal) (hp : s.phase ≠ .halted) (hdecode : decode o = .error e)
    (hmoves : s.env.moves = .offer o :: ms) : step s = .next (s.withMoves ms).refuse :=
  calc step s
    _ = runMove (.offer o) (s.withMoves ms) := OpsLaws.step_of_move hlegal hmoves
    _ = hostOp false id (s.withMoves ms) := hostMove_of_decode_error hdecode _
    _ = .next (s.withMoves ms).refuse := OpsLaws.hostOp_of_refused hp

/-! ### The obligations -/

/-- Settles O1: every operand is read back from its encoding, and the shape of a SET_MODE that is
well formed is the one the decoder takes. -/
theorem decodeEncodeRoundTrip : Obligations.DecodeEncodeRoundTrip := by
  intro i hwf
  cases i with
  | decode16 | buildframe | send | getTelemetry =>
    simp only [encode, decode_opsel, decodeOperands, asByte_ofByte, asPayload_ofBytes, Except.bind,
      Except.map]
  | readresp d => simp only [encode, decode_opsel, decodeOperands, asDuration_val, Except.map]
  | setMode m speed =>
    cases speed with
    | none =>
      have hm : m ≠ .manual := by simpa [Instr.wellFormed] using hwf
      exact decodeSetMode_none hm
    | some q =>
      have hm : m = .manual := by simpa [Instr.wellFormed] using hwf
      subst hm
      rfl
  | cmdReadParam b => exact decodeWire_readParam b
  | cmdSetFanMode param1 param2 => exact decodeWire_fanMode param1 param2
  | cmdRgbOff => exact decodeWire_rgbOff
  | encpct | temp2pct | aggPower | openTransport | closeTransport | rgboff | loopStart
  | loopStop => rfl

/-- Settles O2: SET_MODE alone has a condition, and the decoder tests it. -/
theorem decodedInstructionsWellFormed : Obligations.DecodedInstructionsWellFormed := by
  intro o
  cases o with
  | hostop opsel operands =>
    cases hop : opcodeOf opsel with
    | none => simp [decode, decodeHostop, hop]
    | some op =>
      simp only [decode, decodeHostop, hop]
      exact decodeOperands_readsWellFormed op operands
  | wire p => exact decodeWire_readsWellFormed p

/-- Settles O3: a rejected offer is a HOST step that admits nothing. -/
theorem reservedSelectorsRefused : Obligations.ReservedSelectorsRefused :=
  ⟨opcodeOf_eq_none_iff, fun _ operands h => decode_of_reserved h operands,
    fun _ _ _ _ hlegal hp hdecode hmoves => step_of_decode_error hlegal hp hdecode hmoves⟩

/-- Settles O4, position by position. -/
theorem illTypedOperandsRejected : Obligations.IllTypedOperandsRejected := by
  refine ⟨fun n hn => ?_, fun x hx => byte_operand_rejected (asByte_of_ne hx),
    fun x k hx hk => payload_operand_rejected (asPayload_of_ne hx) hk,
    fun x hx => number_operand_rejected (asRat_of_ne hx) (asDuration_of_ne hx),
    fun vs x rest hlen hx => tel_operand_rejected vs rest hlen (asTel_of_ne hx), ?_⟩
  · obtain ⟨hone, hfirst, hsecond⟩ := byte_operand_rejected (asByte_of_le hn)
    exact ⟨hone, hfirst, fun k hk =>
      ⟨hsecond k hk, fun p hp => payload_operand_rejected (asPayload_of_mem hn hp) hk⟩⟩
  obtain ⟨hpercent, htemp, hduration, hspeed⟩ :=
    number_operand_rejected (x := .num .nonFinite) rfl rfl
  obtain ⟨hmode, hmodeSpeed⟩ := mode_operand_rejected (x := .mode none) rfl
  refine ⟨hpercent, htemp, hduration, hspeed, fun q hq => ?_,
    fun x hx => mode_operand_rejected (asMode_of_ne hx), hmode, hmodeSpeed, rfl,
    fun m x hm => decodeSetMode_speed hm x, fun op operands h hset => decode_wrong_count h hset,
    fun p => ⟨fun h m n => ?_, fun h => ?_⟩⟩
  · simp only [decode_readresp, asDuration_of_neg hq, Except.map]
  · obtain ⟨hread, hfan, hrgb⟩ := decodeWire_undefined_iff.mp h
    exact ⟨fun b heq => hread b ⟨m, n, heq⟩,
      fun param1 param2 heq => hfan param1 param2 ⟨m, n, heq⟩, fun heq => hrgb ⟨m, n, heq⟩⟩
  · refine decodeWire_undefined_iff.mpr ⟨?_, ?_, ?_⟩
    · rintro b ⟨m, n, heq⟩
      obtain ⟨hread, -, -⟩ := h m n
      exact hread b heq
    · rintro param1 param2 ⟨m, n, heq⟩
      obtain ⟨-, hfan, -⟩ := h m n
      exact hfan param1 param2 heq
    · rintro ⟨m, n, heq⟩
      obtain ⟨-, -, hrgb⟩ := h m n
      exact hrgb heq

/-- Settles O7: each word's selector, or each of its bytes, is looked up in the table. -/
theorem specWordsDecode : Obligations.SpecWordsDecode :=
  ⟨rfl, rfl, rfl, rfl, rfl, rfl, rfl⟩

end Sys2Proof.Presentation

namespace Sys2Proof.Machine.F16

/-! ### The fields of an F16 word, R60 -/

theorem f16Fraction_eq (v : U16) : f16Fraction v = v.toNat % 2 ^ 11 := by
  simp only [f16Fraction, BitVec.toNat_and]
  exact Nat.and_two_pow_sub_one_eq_mod v.toNat 11

theorem f16Magnitude_eq (v : U16) : f16Magnitude v = v.toNat / 2 ^ 11 % 2 ^ 4 := by
  simp only [f16Magnitude, BitVec.toNat_and, BitVec.toNat_ushiftRight, Nat.shiftRight_eq_div_pow]
  exact Nat.and_two_pow_sub_one_eq_mod _ 4

/-- The sign is the top bit, so no bit is left above it. -/
theorem f16Sign_eq (v : U16) : f16Sign v = v.toNat / 2 ^ 15 := by
  have hv : v.toNat / 2 ^ 15 < 2 ^ 1 := by omega
  simp only [f16Sign, BitVec.toNat_and, BitVec.toNat_ushiftRight, Nat.shiftRight_eq_div_pow]
  exact (Nat.and_two_pow_sub_one_eq_mod _ 1).trans (Nat.mod_eq_of_lt hv)

/-- R61: the two cases on the sign as one integer expression. -/
theorem f16Exponent_eq (v : U16) :
    f16Exponent v = (f16Magnitude v : Int) - 16 * (f16Sign v : Int) := by
  have hsign := f16Sign_eq v
  unfold f16Exponent
  split <;> omega

/-- R37, R63: the high byte above the low byte. -/
theorem f16Word_toNat (lo hi : Byte) : (f16Word lo hi).toNat = hi.toNat * 256 + lo.toNat := by
  have hlo : lo.toNat < 2 ^ 16 := by omega
  have hhi : hi.toNat <<< 8 < 2 ^ 16 := by
    rw [Nat.shiftLeft_eq]
    omega
  have hhi' : hi.toNat < 2 ^ 16 := by omega
  simp only [f16Word, BitVec.toNat_or, BitVec.toNat_shiftLeft, BitVec.toNat_setWidth,
    Nat.mod_eq_of_lt hlo, Nat.mod_eq_of_lt hhi', Nat.mod_eq_of_lt hhi]
  rw [← Nat.shiftLeft_add_eq_or_of_lt lo.isLt, Nat.shiftLeft_eq]

/-! ### The obligations -/

/-- Settles O8: magnitude and sign are the quotients of the word by `2^11` and `2^15`. -/
theorem f16ExponentIsTwosComplement : Obligations.F16ExponentIsTwosComplement := by
  intro v
  have hexp := f16Exponent_eq v
  have hmag := f16Magnitude_eq v
  have hsign := f16Sign_eq v
  refine ⟨?_, ?_, ?_, ?_, ?_⟩ <;> omega

/-- Settles O9: the fields of the word are read off its number `256 * hi + lo`. -/
theorem decode16IsScaledFraction : Obligations.Decode16IsScaledFraction := by
  intro lo hi
  have hword := f16Word_toNat lo hi
  have hexp : f16Exponent (f16Word lo hi) =
      ((hi.toNat / 8 % 16 : Nat) : Int) - 16 * ((hi.toNat / 128 : Nat) : Int) := by
    rw [f16Exponent_eq, f16Magnitude_eq, f16Sign_eq, hword]
    omega
  have hfrac : f16Fraction (f16Word lo hi) = hi.toNat % 8 * 256 + lo.toNat := by
    rw [f16Fraction_eq, hword]
    omega
  rw [decode16, f16Value, hexp, hfrac]

end Sys2Proof.Machine.F16

namespace Sys2Proof.Machine.Admission

open OpsLaws ExecLaws

/-! ### What the phase and the owner rule out, R93, R94, R172 -/

/-- The transport operations of an owning HOST (R94), the wire commands among them (log 14). -/
def NeedsHost (i : Instr) : Prop :=
  (∃ r p, i = .send r p) ∨ (∃ d, i = .readresp d) ∨ (∃ b, i = .getTelemetry b) ∨
  (∃ m q, i = .setMode m q) ∨ i = .rgboff ∨ (∃ b, i = .cmdReadParam b) ∨
  (∃ a b, i = .cmdSetFanMode a b) ∨ i = .cmdRgbOff

section
variable {i : Instr} {s : State}

theorem admits_setMode {m : FanMode} {speed : Option Rat} :
    admits (.setMode m speed) s = true ↔
      (Instr.setMode m speed).wellFormed = true ∧ s.phase = .idle ∧ s.owner = .host := by
  simp only [admits, Bool.and_eq_true, admitsTransport_iff]

theorem NeedsHost.admitted (hi : NeedsHost i) (h : admits i s = true) :
    s.phase = .idle ∧ s.owner = .host := by
  obtain ⟨r, p, rfl⟩ | ⟨d, rfl⟩ | ⟨b, rfl⟩ | ⟨m, q, rfl⟩ | rfl | ⟨b, rfl⟩ | ⟨a, b, rfl⟩ | rfl := hi
  case inr.inr.inr.inl => exact (admits_setMode.mp h).2
  all_goals exact admitsTransport_iff.mp h

/-- OPEN and LOOP_START take a transport that nobody holds (R97, R134). -/
theorem takes_admitted (hi : i = .openTransport ∨ i = .loopStart) (h : admits i s = true) :
    s.phase = .idle ∧ s.owner = .none := by
  obtain rfl | rfl := hi <;> exact admitsTransport_iff.mp h

theorem closeTransport_admitted (h : admits .closeTransport s = true) : s.phase = .idle := by
  obtain h | h := Bool.or_eq_true_iff.mp h <;> exact (admitsTransport_iff.mp h).1

theorem admitsPure_iff : s.admitsPure = true ↔ s.phase = .idle ∨ s.phase.isCycle = true := by
  simp only [State.admitsPure, Bool.or_eq_true, decide_eq_true_eq]

/-- No operation but LOOP_STOP is admitted outside IDLE and the cycle. -/
theorem admitted_phase (h : admits i s = true) :
    i = .loopStop ∨ s.phase = .idle ∨ s.phase.isCycle = true := by
  cases i with
  | loopStop => exact .inl rfl
  | decode16 | encpct | temp2pct | buildframe | aggPower => exact .inr (admitsPure_iff.mp h)
  | closeTransport => exact .inr (.inl (closeTransport_admitted h))
  | setMode =>
    obtain ⟨-, hidle, -⟩ := admits_setMode.mp h
    exact .inr (.inl hidle)
  | openTransport | loopStart | send | readresp | getTelemetry | rgboff | cmdReadParam
  | cmdSetFanMode | cmdRgbOff => exact .inr (.inl (admitsTransport_iff.mp h).1)

theorem exec_refused_of_not_admitted (hp : s.phase ≠ .halted) (h : ¬ admits i s = true) :
    exec i s = .next { s with refused := true } :=
  exec_refused hp (Bool.not_eq_true _ ▸ h)

end

/-! ### The obligations -/

/-- Settles O46: in each case what the admission of the instruction asks of the phase or the owner
is not so. -/
theorem ownershipRefusals : Obligations.OwnershipRefusals := by
  refine ⟨fun s i hwait hstop => ?_, fun s i hidle hi => ?_, fun s i hcycle hi => ?_⟩
  · refine exec_refused_of_not_admitted (by simp [hwait]) fun h => ?_
    obtain rfl | h | h := admitted_phase h
    · exact hstop rfl
    · simp [hwait] at h
    · simp [hwait, Phase.isCycle] at h
  · refine exec_refused_of_not_admitted (by simp [hidle]) fun h => ?_
    obtain ⟨hi, howner⟩ | ⟨hi, howner⟩ := hi
    · exact howner (takes_admitted hi h).2
    · exact howner (NeedsHost.admitted hi h).2
  · have hhalted : s.phase ≠ .halted := fun hp => by simp [hp, Phase.isCycle] at hcycle
    refine exec_refused_of_not_admitted hhalted fun h => ?_
    have hidle : s.phase = .idle := by
      obtain rfl | rfl | rfl | hi := hi
      · exact (takes_admitted (.inl rfl) h).1
      · exact closeTransport_admitted h
      · exact (takes_admitted (.inr rfl) h).1
      · exact (NeedsHost.admitted hi h).1
    simp [hidle, Phase.isCycle] at hcycle

/-- Settles O33: an admitted SET_MODE is well formed, and neither shape is. -/
theorem illFormedSetModeRefused : Obligations.IllFormedSetModeRefused := by
  intro s m speed hp hshape
  refine exec_refused_of_not_admitted hp fun h => ?_
  have hwf := (admits_setMode.mp h).1
  obtain ⟨rfl, rfl⟩ | ⟨hm, hspeed⟩ := hshape
  · cases hwf
  · simp [Instr.wellFormed, hm, hspeed] at hwf

end Sys2Proof.Machine.Admission

namespace Sys2Proof.Machine.F16

/-! ### The value of an F16 word, R81 and R83 -/

theorem f16Fraction_le (v : U16) : f16Fraction v ≤ 2047 := by
  have hfrac := f16Fraction_eq v
  omega

theorem f16Exponent_mem (v : U16) : -16 ≤ f16Exponent v ∧ f16Exponent v ≤ 15 := by
  obtain ⟨-, -, -, hlow, hhigh⟩ := f16ExponentIsTwosComplement v
  exact ⟨hlow, hhigh⟩

/-- The value in units of `2^-16`. -/
def f16Units (v : U16) : Nat := 2 ^ (f16Exponent v + 16).toNat * f16Fraction v

/-- No exponent is below -16, so every value is a whole number of units. -/
theorem f16Value_eq_units (v : U16) : f16Value v = (f16Units v : Rat) / 65536 := by
  obtain ⟨hlow, -⟩ := f16Exponent_mem v
  have hexp : f16Exponent v = ((f16Exponent v + 16).toNat : Int) - 16 := by omega
  have hpow : (2 : Rat) ^ f16Exponent v = 2 ^ (f16Exponent v + 16).toNat / 65536 := by
    conv_lhs => rw [hexp]
    rw [zpow_sub₀ two_ne_zero, zpow_natCast]
    norm_num
  rw [f16Value, hpow, f16Units]
  push_cast
  ring

theorem f16Units_le (v : U16) : f16Units v ≤ 67076096 * 65536 := by
  obtain ⟨-, hhigh⟩ := f16Exponent_mem v
  calc f16Units v
    _ ≤ 2 ^ 31 * 2047 :=
      Nat.mul_le_mul (Nat.pow_le_pow_right two_pos (by omega)) (f16Fraction_le v)
    _ = 67076096 * 65536 := by norm_num

theorem f16Value_natural {v : U16} (h : 0 ≤ f16Exponent v) : ∃ n : Nat, f16Value v = (n : Rat) := by
  obtain ⟨e, he⟩ := Int.eq_ofNat_of_zero_le h
  exact ⟨2 ^ e * f16Fraction v, by rw [f16Value, he, zpow_natCast]; push_cast; rfl⟩

/-- Settles O10: the value is a number of units of `1 / 65536`, zero or at least one, and at most
`67076096 * 65536`. -/
theorem decode16RangeAndGranularity : Obligations.Decode16RangeAndGranularity := by
  intro lo hi
  have hunits : decode16 lo hi = (f16Units (f16Word lo hi) : Rat) / 65536 := f16Value_eq_units _
  refine ⟨?_, ?_, ?_, ⟨_, hunits⟩, f16Value_natural⟩
  · rw [hunits]
    positivity
  · rw [hunits, div_le_iff₀ (by norm_num)]
    exact_mod_cast f16Units_le _
  · intro hne
    have hpos : 1 ≤ f16Units (f16Word lo hi) := by
      refine Nat.one_le_iff_ne_zero.mpr fun h0 => hne ?_
      rw [hunits, h0, Nat.cast_zero, zero_div]
    rw [hunits]
    gcongr
    exact_mod_cast hpos

end Sys2Proof.Machine.F16

namespace Sys2Proof.Machine.Percent

/-! ### ENCPCT between its clamps, R86 to R88 -/

theorem encpct_of_nonpos {p : Rat} (h : p ≤ 0) : encpct p = 0 := if_pos h

theorem encpct_of_ge_hundred {p : Rat} (h : 100 ≤ p) : encpct p = 100 := by
  have hpos : ¬ p ≤ 0 := by linarith
  rw [encpct, if_neg hpos, if_pos h]

theorem encpct_of_between {p : Rat} (h0 : 0 < p) (h100 : p < 100) :
    encpct p = 9 + ⌊(p - 1) / 99 * 91⌋ := by
  rw [encpct, if_neg h0.not_ge, if_neg h100.not_ge]
  rfl

/-- R88: the least percent, up to the clamps, that encodes as `n` or more. -/
def breakpoint (n : Int) : Rat := 1 + 99 * ((n : Rat) - 9) / 91

/-- Between the clamps ENCPCT and its breakpoints form a Galois connection. -/
theorem le_encpct_iff {p : Rat} (h0 : 0 < p) (h100 : p < 100) (n : Int) :
    n ≤ encpct p ↔ breakpoint n ≤ p := by
  have hformula : breakpoint n ≤ p ↔ ((n - 9 : Int) : Rat) ≤ (p - 1) / 99 * 91 := by
    rw [breakpoint]
    push_cast
    constructor <;> intro h <;> linarith
  rw [encpct_of_between h0 h100, hformula, ← Int.le_floor]
  omega

theorem encpct_eq_iff {p : Rat} (h0 : 0 < p) (h100 : p < 100) (n : Int) :
    encpct p = n ↔ breakpoint n ≤ p ∧ p < breakpoint (n + 1) := by
  rw [← le_encpct_iff h0 h100, ← not_le, ← le_encpct_iff h0 h100]
  omega

theorem breakpoint_mono : Monotone breakpoint := by
  intro m n h
  have hcast : (m : Rat) ≤ n := by exact_mod_cast h
  simp only [breakpoint]
  linarith

theorem breakpoint_lt_succ (n : Int) : breakpoint n < breakpoint (n + 1) := by
  simp only [breakpoint]
  push_cast
  linarith

/-- The percents that encode as 8 start below the lower clamp. -/
theorem breakpoint_eight_nonpos : breakpoint 8 ≤ 0 := by norm_num [breakpoint]

theorem breakpoint_nine : breakpoint 9 = 1 := by norm_num [breakpoint]

theorem breakpoint_hundred : breakpoint 100 = 100 := by norm_num [breakpoint]

/-- R88's table: the breakpoints of 9..99 lie within the clamps. -/
theorem encpct_of_mem_breakpoints {p : Rat} {n : Int} (h9 : 9 ≤ n) (h99 : n ≤ 99)
    (hlow : breakpoint n ≤ p) (hhigh : p < breakpoint (n + 1)) : encpct p = n := by
  have hone : 1 ≤ breakpoint n := breakpoint_nine ▸ breakpoint_mono h9
  have hfull : breakpoint (n + 1) ≤ 100 :=
    breakpoint_hundred ▸ breakpoint_mono (by omega : n + 1 ≤ 100)
  exact (encpct_eq_iff (by linarith) (by linarith) n).mpr ⟨hlow, hhigh⟩

theorem encpct_of_lt_one {p : Rat} (h0 : 0 < p) (h1 : p < 1) : encpct p = 8 :=
  (encpct_eq_iff h0 (by linarith) 8).mpr
    ⟨breakpoint_eight_nonpos.trans h0.le, breakpoint_nine.symm ▸ h1⟩

/-! ### Range and order of ENCPCT, R88 -/

theorem encpct_mem_of_between {p : Rat} (h0 : 0 < p) (h100 : p < 100) :
    8 ≤ encpct p ∧ encpct p ≤ 99 := by
  have hlow : 8 ≤ encpct p :=
    (le_encpct_iff h0 h100 8).mpr (breakpoint_eight_nonpos.trans h0.le)
  have hhigh : ¬ 100 ≤ encpct p := by
    rw [le_encpct_iff h0 h100, breakpoint_hundred]
    exact h100.not_ge
  omega

theorem encpct_mem (p : Rat) : encpct p = 0 ∨ (8 ≤ encpct p ∧ encpct p ≤ 100) := by
  rcases le_or_gt p 0 with h0 | h0
  · exact .inl (encpct_of_nonpos h0)
  rcases le_or_gt 100 p with h100 | h100
  · rw [encpct_of_ge_hundred h100]
    decide
  · have hmem := encpct_mem_of_between h0 h100
    omega

theorem encpctByte_toNat (p : Rat) : ((encpctByte p).toNat : Int) = encpct p := by
  have hmem := encpct_mem p
  rw [encpctByte, BitVec.toNat_ofInt]
  omega

theorem encpct_mono : Monotone encpct := by
  intro p q hpq
  have hp := encpct_mem p
  have hq := encpct_mem q
  rcases le_or_gt p 0 with h0 | h0
  · have hzero := encpct_of_nonpos h0
    omega
  rcases le_or_gt 100 q with h100 | h100
  · have hfull := encpct_of_ge_hundred h100
    omega
  · have hreached := (le_encpct_iff h0 (hpq.trans_lt h100) (encpct p)).mp le_rfl
    exact (le_encpct_iff (h0.trans_le hpq) h100 _).mpr (hreached.trans hpq)

/-- Each value between the clamps is the answer on a non-empty open interval. -/
theorem encpct_interval {n : Int} (h8 : 8 ≤ n) (h99 : n ≤ 99) :
    ∃ a b : Rat, a < b ∧ ∀ p : Rat, a < p → p < b → encpct p = n := by
  rcases h8.eq_or_lt with rfl | h9
  · exact ⟨0, 1, one_pos, fun _ => encpct_of_lt_one⟩
  · exact ⟨breakpoint n, breakpoint (n + 1), breakpoint_lt_succ n,
      fun _ hlow => encpct_of_mem_breakpoints h9 h99 hlow.le⟩

/-- Settles O11: each clause is read off the breakpoints. -/
theorem encpctBreakpointsAndMonotone : Obligations.EncpctBreakpointsAndMonotone := by
  refine ⟨fun p => ⟨encpct_mem p, encpctByte_toNat p⟩, fun _ => encpct_of_nonpos,
    fun _ => encpct_of_lt_one, fun p n h9 h99 hlow hhigh => ?_, fun _ => encpct_of_ge_hundred,
    fun _ _ => (encpct_mono ·), fun _ => encpct_interval⟩
  refine encpct_of_mem_breakpoints h9 h99 hlow ?_
  have hsucc : ((n : Rat) + 1 - 9) = n - 8 := by ring
  rwa [breakpoint, Int.cast_add, Int.cast_one, hsucc]

end Sys2Proof.Machine.Percent

namespace Sys2Proof.Machine.Codec

open OpsLaws ExecLaws Admission

/-! ### The pure operations as HOST steps, R93 -/

/-- The operations that compute a result and record it: those of CODEC and TEMP2PCT. -/
def Computes (i : Instr) : Prop :=
  (∃ lo hi, i = .decode16 lo hi) ∨ (∃ p, i = .encpct p) ∨ (∃ q, i = .temp2pct q) ∨
  ∃ a b c d e f, i = .aggPower a b c d e f

theorem exec_of_admitsPure {i : Instr} {s : State}
    (hs : s.phase = .idle ∨ s.phase.isCycle = true) (hi : admits i s = s.admitsPure) :
    exec i s = .next (effectOf i s) := by
  have hpure : s.admitsPure = true := admitsPure_iff.mpr hs
  exact exec_admitted (admitsPure_not_halted hpure) (hi.trans hpure)

/-- The whole effect of such an operation is its one DONE event. -/
theorem Computes.effectOf_eq {i : Instr} (hi : Computes i) (s : State) :
    ∃ op r, effectOf i s = s.done op .ok r := by
  obtain ⟨lo, hi, rfl⟩ | ⟨p, rfl⟩ | ⟨q, rfl⟩ | ⟨a, b, c, d, e, f, rfl⟩ := hi
  all_goals exact ⟨_, _, rfl⟩

/-! ### The sum of AGG_POWER, R90 and R91 -/

/-- The power of one rail, where both its operands are defined. -/
def railPower : TelemetryValue × TelemetryValue → Option Rat
  | (.val v, .val i) => some (v * i)
  | (.val _, .undef) => none
  | (.undef, _) => none

/-- R90's loop over any list of rails. -/
theorem foldl_addPower (rails : List (TelemetryValue × TelemetryValue)) (total : Rat) :
    rails.foldl (fun t r => addPower t r.1 r.2) total =
      total + (rails.filterMap railPower).sum := by
  induction rails generalizing total with
  | nil => simp
  | cons rail rails ih =>
    rw [List.foldl_cons, ih]
    rcases rail with ⟨v | _, i | _⟩
    · exact add_assoc total (v * i) _
    all_goals rfl

theorem aggPower_eq_sum (v12 v5 v33 i12 i5 i33 : TelemetryValue) :
    aggPower v12 v5 v33 i12 i5 i33 =
      ([(v12, i12), (v5, i5), (v33, i33)].filterMap railPower).sum :=
  (foldl_addPower [(v12, i12), (v5, i5), (v33, i33)] 0).trans (zero_add _)

/-! ### The obligations -/

/-- Settles O15: the recorded value is the scaled fraction of O9. -/
theorem decode16Completes : Obligations.Decode16Completes := by
  intro s lo hi hs
  rw [exec_of_admitsPure hs rfl, ← F16.decode16IsScaledFraction lo hi]
  rfl

/-- Settles O16: the three ranges of the percent are the three branches of ENCPCT, and the integer
between the clamps is the floor. -/
theorem encpctCompletes : Obligations.EncpctCompletes := by
  intro s p hs
  have hexec : exec (.encpct p) s = .next (s.done .encpct .ok (.integer (encpct p))) :=
    exec_of_admitsPure hs rfl
  refine ⟨fun h0 => ?_, fun h100 => ?_, fun h0 h100 =>
    ⟨⌊(p - 1) / 99 * 91⌋, Int.floor_le _, Int.lt_floor_add_one _, ?_⟩⟩
  · rw [hexec, Percent.encpct_of_nonpos h0]
    rfl
  · rw [hexec, Percent.encpct_of_ge_hundred h100]
    rfl
  · rw [hexec, Percent.encpct_of_between h0 h100]
    rfl

/-- Settles O18: the three turns of R90's loop are the sum over the defined rails. -/
theorem aggPowerCompletes : Obligations.AggPowerCompletes := by
  intro s v12 v5 v33 i12 i5 i33 hs
  calc exec (.aggPower v12 v5 v33 i12 i5 i33) s
    _ = .next (s.done .aggPower .ok (.rational (aggPower v12 v5 v33 i12 i5 i33))) :=
      exec_of_admitsPure hs rfl
    _ = .next (s.done .aggPower .ok (.rational
          ([(v12, i12), (v5, i5), (v33, i33)].filterMap railPower).sum)) := by
      rw [aggPower_eq_sum]

/-- Settles O19: an admitted one adds its DONE event, one that is not admitted sets the mark. -/
theorem pureOperationsFrame : Obligations.PureOperationsFrame := by
  intro s t i hi hnext
  have hframe : t = { s with hist := t.hist, refused := t.refused } := by
    obtain ⟨-, ht⟩ := exec_next_iff.mp hnext
    obtain ⟨op, r, heffect⟩ := Computes.effectOf_eq hi s
    rw [heffect] at ht
    split at ht <;> rw [ht] <;> rfl
  refine ⟨hframe, fun a => ?_⟩
  rw [hframe]
  rfl

end Sys2Proof.Machine.Codec

namespace Sys2Proof.Machine.Quiescence

open OpsLaws ExecLaws

/-! ### HALTED, R147 -/

theorem blockMove_of_halted {effect : State → State} {s : State} (h : s.phase = .halted) :
    blockMove effect s = .fault .halted := if_pos h

theorem hostMove_of_halted {s : State} (h : s.phase = .halted) (o : Offer) :
    hostMove o s = .fault .halted := by
  unfold hostMove
  split
  · exact exec_halted h
  · exact hostOp_of_halted h

/-- Only DEVICE still moves. -/
theorem runMove_of_halted {s : State} (h : s.phase = .halted) {m : Move}
    (hm : ∀ chunk, m ≠ .device chunk) : runMove m s = .fault .halted := by
  cases m with
  | offer o => exact hostMove_of_halted h o
  | intr => exact exec_halted (i := .loopStop) h
  | device chunk => exact absurd rfl (hm chunk)
  | timer | ctrl => exact blockMove_of_halted h

/-- R29, R102: bytes outside a window are discarded. -/
theorem rxArrive_of_closed {s : State} (h : s.rxOpen = false) (chunk : List Byte) :
    s.rxArrive chunk = s := by
  simp [State.rxArrive, h]

/-- Settles O47: a step is its first move, and HALTED stops every move but DEVICE's, whose bytes no
window takes. -/
theorem haltedIsQuiescent : Obligations.HaltedIsQuiescent := by
  intro s hhalted
  refine ⟨fun _ => exec_halted hhalted, fun hlegal => ⟨fun hnone => ?_, fun m ms hmoves => ?_⟩⟩
  · rw [step_of_no_move hlegal hnone]
    exact blockMove_of_halted hhalted
  rw [step_of_move hlegal hmoves]
  refine ⟨fun hm => runMove_of_halted (s := s.withMoves ms) hhalted hm, ?_⟩
  rintro hclosed chunk rfl
  exact congrArg _ (rxArrive_of_closed (s := s.withMoves ms) hclosed chunk)

end Sys2Proof.Machine.Quiescence

namespace Sys2Proof.Machine.Ownership

open Transmission

/-- Settles O57: a step that transmits has a sender, and one that does not adds no TX event. -/
theorem onlyTheOwnerTransmits : Obligations.OnlyTheOwnerTransmits := by
  intro s t es f hstep hadded hf
  obtain hnone | ⟨hsender, -⟩ := step_transmits hstep
  · have hes : sent es = [] := by simpa [show t.hist = s.hist ++ es from hadded] using hnone
    have hmem : f ∈ sent es := mem_sent.mpr hf
    simp [hes] at hmem
  · exact hsender

end Sys2Proof.Machine.Ownership

namespace Sys2Proof.Machine.Framing

open OpsLaws ExecLaws Codec

/-! ### The frame of a payload, R95 -/

section
variable {c : Cfg} {rid : Byte} {p : List Byte}

theorem getElem?_frameOf_payload {i : Nat} (h : i < p.length) :
    (frameOf c rid p)[1 + i]? = p[i]? := by
  rw [frameOf, Nat.add_comm, List.getElem?_cons_succ, List.getElem?_append_left h]

theorem getElem?_frameOf_padding {j : Nat} (hp : p.length + 1 ≤ j) (hj : j < c.frameLen) :
    (frameOf c rid p)[j]? = some 0x00#8 := by
  obtain ⟨k, rfl⟩ : ∃ k, j = k + 1 := ⟨j - 1, by omega⟩
  rw [frameOf, List.getElem?_cons_succ, List.getElem?_append_right (by omega), zeros,
    List.getElem?_replicate_of_lt (by omega)]

end

/-! ### BUILDFRAME, R95 and R96 -/

section
variable {s : State} {rid : Byte} {p : List Byte}

theorem buildframeEffect_of_fits (h : 1 + p.length ≤ s.cfg.frameLen) :
    buildframeEffect rid p s = (s.writeFrame (frameOf s.cfg rid p)).done .buildframe .ok
      (.frame (frameOf s.cfg rid p)) :=
  if_neg (by simp [tooLong_iff, h])

theorem buildframeEffect_of_tooLong (h : s.cfg.frameLen < 1 + p.length) :
    buildframeEffect rid p s = s.raiseFault .frameEncodingError p.length :=
  if_pos (tooLong_iff.mpr h)

end

/-! ### The obligations -/

/-- Settles O20: the result is the frame of the payload, and FR holds what was written to it. -/
theorem buildframeCompletes : Obligations.BuildframeCompletes := by
  intro s rid p hs hfits
  refine ⟨_, frameOf s.cfg rid p, exec_of_admitsPure hs rfl, frameOf_length hfits, rfl,
    fun _ => getElem?_frameOf_payload, fun _ => getElem?_frameOf_padding, ?_⟩
  rw [effectOf, buildframeEffect_of_fits hfits]
  exact ⟨fun _ => frRead_writeFrame hfits, fun _ => read_writeFrame_outside hfits, rfl⟩

/-- Settles O21: BUILDFRAME is admitted, and compares the length before it writes FR. -/
theorem oversizedBuildframeTakesFault : Obligations.OversizedBuildframeTakesFault := by
  intro s rid p hs hlong
  calc exec (.buildframe rid p) s
    _ = .next (buildframeEffect rid p s) := exec_of_admitsPure hs rfl
    _ = .next (s.raiseFault .frameEncodingError p.length) := by
      rw [buildframeEffect_of_tooLong hlong]

end Sys2Proof.Machine.Framing

namespace Sys2Proof.Machine.Transfer

open OpsLaws ExecLaws Transitions

/-! ### Payload lengths, R109 and R124 -/

@[simp] theorem length_payloadReadParam (b : Byte) : (payloadReadParam b).length = 2 := rfl

@[simp] theorem length_payloadFanMode (param1 param2 : Byte) :
    (payloadFanMode param1 param2).length = 4 := rfl

@[simp] theorem length_payloadRgbOff : payloadRgbOff.length = 6 := rfl

@[simp] theorem length_ctrlCmd (c : Cfg) (active : Bool) (q : Rat) :
    (ctrlCmd c active q).length = 4 := by
  cases active <;> rfl

/-! ### What an operation of HOST that sends leaves unchanged -/

/-- The fields that the rest of a HOST operation does not write after its send: the window, the
timer, the pending operation, the phase, the history and the draws are left out. -/
def kept (s : State) : State :=
  { s with
    phase := .idle, rxOpen := false, rxKind := .read, rxBuf := [], tmr := none, hPend := none
    hist := [], env := { s.env with answers := [], asked := 0 } }

/-- What a HOST operation may do once its send is answered. -/
def Continues (f : State → State) : Prop :=
  ∀ v, kept (f v) = kept v ∧ (v.phase ≠ .halted → (f v).phase ≠ .halted)

/-- From s, a HOST operation that sends n bytes of payload leads to t. -/
def HostSend (s : State) (n : Nat) (t : State) : Prop :=
  ∃ ok noChannel rid p, Continues ok ∧ Continues noChannel ∧ p.length = n ∧
    t = afterSend ok noChannel (s.sendFrame rid p)

/-- The length of the payload an instruction sends, where it sends one (R99, R109). -/
def sentLength : Instr → Option Nat
  | .send _ p => some p.length
  | .getTelemetry _ | .cmdReadParam _ => some 2
  | .setMode _ _ | .cmdSetFanMode _ _ => some 4
  | .rgboff | .cmdRgbOff => some 6
  | .decode16 _ _ | .encpct _ | .temp2pct _ | .buildframe _ _ | .openTransport | .closeTransport
  | .readresp _ | .aggPower _ _ _ _ _ _ | .loopStart | .loopStop => none

section
variable {s t : State} {i : Instr} {n : Nat}

theorem continues_done (op : Opcode) (code : Status) (r : Result) :
    Continues fun v => v.done op code r := fun _ => ⟨rfl, id⟩

theorem continues_await (kind : RxKind) (d : Duration) (pending : Pending) :
    Continues fun v => (v.rxOpenWindow kind d).await pending := fun _ => ⟨rfl, fun _ => nofun⟩

theorem continues_tel_done (b : Byte) (v : TelemetryValue) (op : Opcode) (code : Status)
    (r : Result) : Continues fun u => (u.emit (.tel b v)).done op code r := fun _ => ⟨rfl, id⟩

theorem sendEffect_hostSend (rid : Byte) {p : List Byte} (hn : p.length = n) :
    HostSend s n (sendEffect rid p s) :=
  ⟨_, _, rid, p, continues_done _ _ _, continues_done _ _ _, hn, sendEffect_eq rid p⟩

theorem getTelemetryEffect_hostSend (b : Byte) : HostSend s 2 (getTelemetryEffect b s) :=
  ⟨_, _, _, _, continues_await _ _ _, continues_tel_done _ _ _ _ _, rfl, getTelemetryEffect_eq b⟩

theorem commandEffect_hostSend (op : Opcode) (pending : Pending) {p : List Byte}
    (hn : p.length = n) : HostSend s n (commandEffect op pending p s) :=
  ⟨_, _, _, p, continues_await _ _ _, continues_done _ _ _, hn, commandEffect_eq op pending p⟩

/-- Every instruction that sends, as one send and what follows it. -/
theorem effectOf_hostSend (h : sentLength i = some n) (s : State) :
    HostSend s n (effectOf i s) := by
  cases i with
  | send | cmdReadParam | cmdSetFanMode | cmdRgbOff =>
    exact sendEffect_hostSend _ (Option.some.inj h)
  | getTelemetry b => cases h; exact getTelemetryEffect_hostSend b
  | setMode | rgboff => exact commandEffect_hostSend _ _ (Option.some.inj h)
  | _ => cases h

theorem admits_of_sentLength (h : sentLength i = some n) (hwf : i.wellFormed = true)
    (hp : s.phase = .idle) (ho : s.owner = .host) : admits i s = true := by
  cases i with
  | setMode => exact Admission.admits_setMode.mpr ⟨hwf, hp, ho⟩
  | send | getTelemetry | rgboff | cmdReadParam | cmdSetFanMode | cmdRgbOff =>
    exact admitsTransport_iff.mpr ⟨hp, ho⟩
  | _ => cases h

/-! ### A payload that does not fit, R108 and R147 -/

theorem afterSend_tooLong {ok noChannel : State → State} {rid : Byte} {p : List Byte}
    (h : s.cfg.frameLen < 1 + p.length) :
    afterSend ok noChannel (s.sendFrame rid p) = s.raiseFault .frameEncodingError p.length := by
  rw [sendFrame_tooLong h]
  rfl

theorem HostSend.of_tooLong (h : HostSend s n t) (hlong : s.cfg.frameLen < 1 + n) :
    t = s.raiseFault .frameEncodingError n := by
  obtain ⟨ok, noChannel, rid, p, -, -, rfl, rfl⟩ := h
  exact afterSend_tooLong hlong

theorem exec_tooLong (h : sentLength i = some n) (hwf : i.wellFormed = true) (hp : s.phase = .idle)
    (ho : s.owner = .host) (hlong : s.cfg.frameLen < 1 + n) :
    exec i s = .next (s.raiseFault .frameEncodingError n) := by
  rw [exec_admitted (by simp [hp]) (admits_of_sentLength h hwf hp ho),
    (effectOf_hostSend h s).of_tooLong hlong]

/-! ### A payload that fits, R95 and R99 -/

theorem HostSend.of_fits (h : HostSend s n t) (hfits : 1 + n ≤ s.cfg.frameLen) :
    (∃ rid p, p.length = n ∧ kept t = kept (s.writeFrame (frameOf s.cfg rid p))) ∧
    (s.phase ≠ .halted → t.phase ≠ .halted) := by
  obtain ⟨ok, noChannel, rid, p, hok, hno, rfl, rfl⟩ := h
  obtain ⟨hlong, -⟩ | ⟨-, -, h⟩ | ⟨-, -, h⟩ := sendFrame_cases s rid p
  · omega
  · rw [h]
    exact ⟨⟨rid, p, rfl, (hok _).1⟩, fun hp => (hok _).2 hp⟩
  · rw [h]
    exact ⟨⟨rid, p, rfl, (hno _).1⟩, fun hp => (hno _).2 hp⟩

end

/-! ### The sends of the loop, R126 -/

section
variable {s : State} (ho : s.owner = .loop)
include ho

theorem ctrlStep_of_cRtSend (hp : s.phase = .cRtSend) : s.ctrlStep = ctrlTempSend s := by
  simp [State.ctrlStep, State.ctrlEnabled, ho, hp]

theorem ctrlStep_of_cRrSend (hp : s.phase = .cRrSend) : s.ctrlStep = ctrlRpmSend s := by
  simp [State.ctrlStep, State.ctrlEnabled, ho, hp]

theorem ctrlStep_of_cModeSend (hp : s.phase = .cModeSend) : s.ctrlStep = ctrlModeSend s := by
  simp [State.ctrlStep, State.ctrlEnabled, ho, hp]

/-- In each of its three send phases the loop sends a payload of two bytes or of four. -/
theorem ctrlStep_tooLong {n : Nat} (hlong : s.cfg.frameLen < 1 + n)
    (hsend : ((s.phase = .cRtSend ∨ s.phase = .cRrSend) ∧ n = 2) ∨
      (s.phase = .cModeSend ∧ (∃ q, s.tCur = .val q) ∧ n = 4)) :
    s.ctrlStep = s.raiseFault .frameEncodingError n := by
  obtain ⟨hp | hp, rfl⟩ | ⟨hp, ⟨q, hq⟩, rfl⟩ := hsend
  · rw [ctrlStep_of_cRtSend ho hp, ctrlTempSend_eq, afterSend_tooLong hlong,
      length_payloadReadParam]
  · rw [ctrlStep_of_cRrSend ho hp, ctrlRpmSend_eq, afterSend_tooLong hlong,
      length_payloadReadParam]
  · rw [ctrlStep_of_cModeSend ho hp, ctrlModeSend_of_val hq,
      afterSend_tooLong (by rwa [length_ctrlCmd]), length_ctrlCmd]

end

/-! ### The obligations -/

/-- Settles O22: a send compares the length before it draws the channel, and what an operation does
after its send is left out when the fault was taken. -/
theorem sendFaultWinsOverNoChannel : Obligations.SendFaultWinsOverNoChannel := by
  refine ⟨fun s rid p hp ho hlong => exec_tooLong rfl rfl hp ho hlong,
    fun s i n hp ho hwf hlong hi => ?_, fun s n ms hlegal ho hmoves hlong hsend => ?_⟩
  · have hlen : sentLength i = some n := by
      obtain ⟨⟨b, rfl⟩ | ⟨b, rfl⟩, rfl⟩ | ⟨⟨m, q, rfl⟩ | ⟨a, b, rfl⟩, rfl⟩ | ⟨rfl | rfl, rfl⟩ := hi
      all_goals rfl
    exact exec_tooLong hlen hwf hp ho hlong
  · have hhalted : s.phase ≠ .halted := by
      obtain ⟨hp | hp, -⟩ | ⟨hp, -⟩ := hsend <;> simp [hp]
    calc step s
      _ = blockMove State.ctrlStep (s.withMoves ms) := step_of_move hlegal hmoves
      _ = .next (s.withMoves ms).ctrlStep := blockMove_next_iff.mpr ⟨hhalted, rfl⟩
      _ = .next ((s.withMoves ms).raiseFault .frameEncodingError n) := by
        rw [ctrlStep_tooLong (s := s.withMoves ms) ho hlong hsend]

/-- Settles O25: the send with its two answers of the channel. -/
theorem sendCompletes : Obligations.SendCompletes := by
  intro s rid p hp ho hfits
  refine ⟨_, exec_admitted (by simp [hp]) (admitsTransport_iff.mpr ⟨hp, ho⟩), ?_⟩
  rw [effectOf, sendEffect_eq]
  cases hc : s.channel with
  | true =>
    rw [sendFrame_ok hfits hc]
    exact ⟨by simp [afterSend, State.done, State.emit, State.answered, State.writeFrame, frameOf],
      fun _ => frRead_writeFrame hfits, fun _ => read_writeFrame_outside hfits⟩
  | false =>
    rw [sendFrame_noChannel hfits hc]
    exact ⟨rfl, fun _ => frRead_writeFrame hfits, fun _ => read_writeFrame_outside hfits⟩

/-- Settles O36: an operation that is not admitted sets the mark; an admitted one takes the fault or
builds a frame that fits and goes on. -/
theorem sendingOperationsFrame : Obligations.SendingOperationsFrame := by
  intro s t i hi hnext
  obtain ⟨n, hlen⟩ : ∃ n, sentLength i = some n := by
    obtain ⟨r, p, rfl⟩ | ⟨b, rfl⟩ | ⟨m, q, rfl⟩ | rfl | ⟨b, rfl⟩ | ⟨a, b, rfl⟩ | rfl := hi
    all_goals exact ⟨_, rfl⟩
  obtain ⟨-, ht⟩ := exec_next_iff.mp hnext
  split at ht
  · have hsend : HostSend s n t := ht ▸ effectOf_hostSend hlen s
    rcases Nat.lt_or_ge s.cfg.frameLen (1 + n) with hlong | hfits
    · rw [hsend.of_tooLong hlong]
      exact ⟨rfl, rfl, rfl, rfl, rfl, id, fun _ _ => rfl, .inr ⟨rfl, rfl⟩⟩
    · obtain ⟨⟨rid, p, rfl, hkept⟩, -⟩ := hsend.of_fits hfits
      refine ⟨(congrArg State.cfg hkept :), (congrArg State.fanActive hkept :),
        (congrArg State.tCur hkept :), (congrArg State.rCur hkept :),
        (congrArg (fun u => u.env.moves) hkept :),
        fun hmark => (congrArg State.refused hkept :).trans hmark, fun a ha => ?_,
        .inl ⟨(congrArg State.owner hkept :), (congrArg State.fault hkept :)⟩⟩
      have hfr : t.fr = (s.writeFrame (frameOf s.cfg rid p)).fr := (congrArg State.fr hkept :)
      rw [hfr, read_writeFrame_outside hfits ha]
  · rw [ht]
    exact ⟨rfl, rfl, rfl, rfl, rfl, fun _ => rfl, fun _ _ => rfl, .inl ⟨rfl, rfl⟩⟩

end Sys2Proof.Machine.Transfer

namespace Sys2Proof.Machine.TransportControl

open OpsLaws ExecLaws Admission

/-! ### OPEN, R97 -/

theorem openEffect_eq (s : State) :
    openEffect s = { s with
      owner := if s.found then .host else s.owner
      hist := s.hist ++ [.done .openTransport (if s.found then .ok else .deviceNotFound) .none]
      env := { s.env with answers := s.env.answers.tail, asked := s.env.asked + 1 } } := by
  unfold openEffect
  split <;> simp only [*] <;> rfl

/-! ### What the operations that control the transport leave unchanged -/

/-- The fields that none of OPEN, CLOSE, READRESP, LOOP_START and LOOP_STOP writes. -/
def Controlled (s t : State) : Prop :=
  t.cfg = s.cfg ∧ t.fault = s.fault ∧ t.fr = s.fr ∧ t.env.moves = s.env.moves ∧
  (s.refused = true → t.refused = true)

/-- The registers of the loop, which LOOP_START alone of them resets (R134). -/
def SameLoopRegisters (s t : State) : Prop :=
  t.fanActive = s.fanActive ∧ t.tCur = s.tCur ∧ t.rCur = s.rCur

theorem openEffect_controlled (s : State) :
    Controlled s (openEffect s) ∧ SameLoopRegisters s (openEffect s) ∧
    (openEffect s).rxKind = s.rxKind := by
  rw [openEffect_eq]
  exact ⟨⟨rfl, rfl, rfl, rfl, id⟩, ⟨rfl, rfl, rfl⟩, rfl⟩

theorem loopStartEffect_controlled (s : State) :
    Controlled s (loopStartEffect s) ∧ (loopStartEffect s).rxKind = s.rxKind := by
  unfold loopStartEffect
  split <;> exact ⟨⟨rfl, rfl, rfl, rfl, id⟩, rfl⟩

/-! ### The obligations -/

/-- Settles O23: OPEN is admitted, and its two answers are the two values of the draw. -/
theorem openCompletes : Obligations.OpenCompletes := by
  intro s hp ho
  calc exec .openTransport s
    _ = .next (openEffect s) :=
      exec_admitted (by simp [hp]) (admitsTransport_iff.mpr ⟨hp, ho⟩)
    _ = _ := by rw [openEffect_eq, ho]

/-- Settles O24: CLOSE is admitted in IDLE for every owner but the loop. -/
theorem closeReleasesOrIsRefused : Obligations.CloseReleasesOrIsRefused := by
  refine fun s => ⟨fun hp ho => ?_, fun hp hother => ?_⟩
  · refine exec_admitted (by simp [hp]) (Bool.or_eq_true_iff.mpr ?_)
    exact ho.imp (fun ho => admitsTransport_iff.mpr ⟨hp, ho⟩)
      (fun ho => admitsTransport_iff.mpr ⟨hp, ho⟩)
  · refine exec_refused_of_not_admitted hp fun h => ?_
    obtain h | h := Bool.or_eq_true_iff.mp h <;>
    · obtain ⟨hidle, howner⟩ := admitsTransport_iff.mp h
      simp [hidle, howner] at hother

/-- Settles O26: READRESP is admitted, and its issue step opens the window and waits. -/
theorem readrespOpensWindow : Obligations.ReadrespOpensWindow := fun s _ hp ho =>
  exec_admitted (by simp [hp]) (admitsTransport_iff.mpr ⟨hp, ho⟩)

/-- Settles O37: by the effect of each of the five operations, or the refusal mark. -/
theorem transportControlFrame : Obligations.TransportControlFrame := by
  intro s t i hi hnext
  suffices h : Controlled s t ∧ (i ≠ .loopStart → SameLoopRegisters s t) ∧
      ((∀ d, i ≠ .readresp d) → t.rxKind = s.rxKind) by
    obtain ⟨⟨hcfg, hfault, hfr, hmoves, hmark⟩, hloop, hkind⟩ := h
    exact ⟨hcfg, hfault, hfr, hmoves, hmark, hloop, hkind⟩
  obtain ⟨-, ht⟩ := exec_next_iff.mp hnext
  split at ht <;> subst ht
  · obtain rfl | rfl | ⟨d, rfl⟩ | rfl | rfl := hi
    · obtain ⟨hctl, hloop, hkind⟩ := openEffect_controlled s
      exact ⟨hctl, fun _ => hloop, fun _ => hkind⟩
    · exact ⟨⟨rfl, rfl, rfl, rfl, id⟩, fun _ => ⟨rfl, rfl, rfl⟩, fun _ => rfl⟩
    · exact ⟨⟨rfl, rfl, rfl, rfl, id⟩, fun _ => ⟨rfl, rfl, rfl⟩, fun h => absurd rfl (h d)⟩
    · obtain ⟨hctl, hkind⟩ := loopStartEffect_controlled s
      exact ⟨hctl, fun h => absurd rfl h, fun _ => hkind⟩
    · exact ⟨⟨rfl, rfl, rfl, rfl, id⟩, fun _ => ⟨rfl, rfl, rfl⟩, fun _ => rfl⟩
  · exact ⟨⟨rfl, rfl, rfl, rfl, fun _ => rfl⟩, fun _ => ⟨rfl, rfl, rfl⟩, fun _ => rfl⟩

end Sys2Proof.Machine.TransportControl

namespace Sys2Proof.Machine.Reception

open OpsLaws StateRules

/-! ### RX arrival, R102 -/

section
variable {s : State}

/-- An arrival writes the buffer alone, and only while a window is open. -/
theorem rxArrive_eq (chunk : List Byte) :
    s.rxArrive chunk = { s with
      rxBuf := if s.rxOpen then capTo s.cfg.rxCap (s.rxBuf ++ chunk) else s.rxBuf } := by
  by_cases h : s.rxOpen = true
  · rw [State.rxArrive, if_pos h, if_pos h]
  · rw [State.rxArrive, if_neg h, if_neg h]

theorem capTo_of_length_le {cap : Option Nat} {bs : List Byte}
    (h : ∀ n, cap = some n → bs.length ≤ n) : capTo cap bs = bs := by
  cases cap with
  | none => rfl
  | some n => exact List.take_of_length_le (h n rfl)

/-- Cutting at the capacity chunk by chunk is cutting once. -/
theorem capTo_capTo_append (cap : Option Nat) (bs bs' : List Byte) :
    capTo cap (capTo cap bs ++ bs') = capTo cap (bs ++ bs') := by
  cases cap with
  | none => rfl
  | some n =>
    simp only [capTo, List.take_append, List.take_take, Nat.min_self, List.length_take]
    rcases Nat.le_total n bs.length with h | h
    · rw [Nat.min_eq_left h, Nat.sub_self, Nat.sub_eq_zero_of_le h]
    · rw [Nat.min_eq_right h]

/-- Two arrivals in a row are one arrival of both chunks (R102, R105). -/
theorem rxArrive_rxArrive (bs bs' : List Byte) :
    (s.rxArrive bs).rxArrive bs' = s.rxArrive (bs ++ bs') := by
  cases h : s.rxOpen <;> simp [rxArrive_eq, h, capTo_capTo_append]

theorem rxArrive_nil (h : withinCap s) : s.rxArrive [] = s := by
  unfold State.rxArrive
  split
  · rw [List.append_nil, capTo_of_length_le h]
  · rfl

theorem rxArrive_withinCap (h : withinCap s) (chunk : List Byte) :
    withinCap (s.rxArrive chunk) := by
  unfold State.rxArrive
  split
  · exact fun _ hn => length_capTo_le hn _
  · exact h

theorem rxArrive_withMoves (chunk : List Byte) (ms : List Move) :
    (s.withMoves ms).rxArrive chunk = (s.rxArrive chunk).withMoves ms := by
  rw [rxArrive_eq, rxArrive_eq]
  rfl

theorem step_of_device (hl : s.cfg.Legal) {chunk : List Byte} {ms : List Move}
    (hm : s.env.moves = .device chunk :: ms) :
    step s = .next ((s.rxArrive chunk).withMoves ms) :=
  (step_of_move hl hm).trans (congrArg _ (rxArrive_withMoves chunk ms))

end

theorem run_succ {M : Host.Core} {k : Nat} {s t : M.State} (h : M.step s = .next t) :
    M.run (k + 1) s = M.run k t := by
  simp only [Host.Core.run, h]

/-- A run of DEVICE moves is one arrival of all their chunks. -/
theorem run_device (chunks : List (List Byte)) (ms : List Move) {s : State} (hl : s.cfg.Legal)
    (hcap : withinCap s) (hm : s.env.moves = chunks.map .device ++ ms) :
    core.run chunks.length s = .next ((s.rxArrive chunks.flatten).withMoves ms) := by
  induction chunks generalizing s with
  | nil =>
    rw [List.flatten_nil, rxArrive_nil hcap, ← show s.env.moves = ms from hm]
    rfl
  | cons chunk rest ih =>
    have hm' : s.env.moves = .device chunk :: (rest.map .device ++ ms) := hm
    have hlegal : (s.rxArrive chunk).cfg.Legal := by rwa [rxArrive_eq]
    calc core.run (rest.length + 1) s
      _ = core.run rest.length ((s.rxArrive chunk).withMoves (rest.map .device ++ ms)) :=
        run_succ (step_of_device hl hm')
      _ = .next ((((s.rxArrive chunk).withMoves (rest.map Move.device ++ ms)).rxArrive
            rest.flatten).withMoves ms) :=
        ih (s := (s.rxArrive chunk).withMoves (rest.map .device ++ ms)) hlegal
          (rxArrive_withinCap hcap chunk) rfl
      _ = .next ((s.rxArrive (chunk ++ rest.flatten)).withMoves ms) := by
        rw [rxArrive_withMoves, rxArrive_rxArrive]
        rfl

/-! ### The obligations -/

/-- Settles O27: a DEVICE move is taken in every phase, and an arrival looks at the window alone. -/
theorem arrivalAppendsOrIsDiscarded : Obligations.ArrivalAppendsOrIsDiscarded := by
  intro s chunk ms hl hm
  refine ⟨fun hopen => ?_, fun hshut => ?_⟩
  · rw [step_of_device hl hm, rxArrive_eq, hopen]
    cases s.cfg.rxCap <;> rfl
  · rw [step_of_device hl hm, Quiescence.rxArrive_of_closed hshut]
    rfl

/-- Settles O28: the run is one arrival of all the chunks. -/
theorem windowCollectsAllArrivals : Obligations.WindowCollectsAllArrivals := by
  intro chunks s ms hl hcap hopen hm
  rw [run_device chunks ms hl hcap hm, rxArrive_eq, hopen]
  cases s.cfg.rxCap <;> rfl

end Sys2Proof.Machine.Reception

namespace Sys2Proof.Machine.Completion

open OpsLaws

/-! ### The window close of a pending operation, R104 -/

/-- What a pending operation records when its window closes with these bytes. -/
def completion (c : Cfg) (bytes : List Byte) : Pending → List Event
  | .readresp => [.done .readresp .ok (.bytes bytes)]
  | .getTelemetry b =>
    [.tel b (respDecode c bytes),
     .done .getTelemetry (telStatus (respDecode c bytes)) (.telemetry (respDecode c bytes))]
  | .setMode => [.done .setMode .ok .none]
  | .rgboff => [.done .rgboff .ok .none]

section
variable {s : State}

theorem completePending_eq {p : Pending} (h : s.hPend = some p) (bytes : List Byte) :
    s.completePending bytes =
      { s.resume with hist := s.hist ++ completion s.cfg bytes p } := by
  cases p with
  | getTelemetry b =>
    simp [State.completePending, h, completion, State.emit, State.done, State.resume]
  | readresp | setMode | rgboff => simp only [State.completePending, h]; rfl

theorem windowClose_of_hWait (h : s.phase = .hWait) :
    s.windowClose = (s.rxClose.emit (.win s.rxKind s.rxBuf)).completePending s.rxBuf := by
  simp only [State.windowClose, h]

theorem timerStep_of_win {d : Duration} (h : s.tmr = some (.win, d)) :
    s.timerStep = s.windowClose := by
  simp only [State.timerStep, h]

end

/-- R113: the status of a read is DECODE_UNDEFINED exactly where its value is `Undef`. -/
theorem telStatus_eq (x : TelemetryValue) :
    telStatus x = if x = .undef then .decodeUndefined else .ok := by
  cases x <;> simp [telStatus]

/-- Settles O29: the expiry closes the window, and the pending operation records its completion. -/
theorem hostWindowCloseCompletes : Obligations.HostWindowCloseCompletes := by
  intro s d ms hl hp ht hm p hpend
  have hhalted : (s.withMoves ms).phase ≠ .halted := by simp [hp]
  have hstep : step s = .next { s with
      rxOpen := false, rxBuf := [], tmr := none, hPend := none, phase := .idle
      hist := s.hist ++ [.win s.rxKind s.rxBuf] ++ completion s.cfg s.rxBuf p
      env := { s.env with moves := ms } } := by
    calc step s
      _ = blockMove State.timerStep (s.withMoves ms) := step_of_move hl hm
      _ = .next (s.withMoves ms).timerStep := blockMove_next_iff.mpr ⟨hhalted, rfl⟩
      _ = .next (((s.withMoves ms).rxClose.emit (.win s.rxKind s.rxBuf)).completePending
            s.rxBuf) := by
        rw [timerStep_of_win (s := s.withMoves ms) ht,
          windowClose_of_hWait (s := s.withMoves ms) hp]
        rfl
      _ = _ := by
        rw [completePending_eq (s := (s.withMoves ms).rxClose.emit _) hpend]
        rfl
  rw [hstep, List.append_assoc, List.singleton_append]
  cases p with
  | getTelemetry b => simp only [completion, telStatus_eq]
  | readresp | setMode | rgboff => rfl

end Sys2Proof.Machine.Completion

namespace Sys2Proof.Machine.Duties

open OpsLaws ExecLaws Transitions Transfer

/-! ### A step that takes no fault, R144 -/

/-- From s to t the block goes on: no fault is taken, and the schedule is left as it is. -/
def GoesOn (s t : State) : Prop :=
  t.phase ≠ .halted ∧ t.fault = s.fault ∧ t.env.moves = s.env.moves

section
variable {s t : State}

/-- A send whose payload fits takes no fault of its own. -/
theorem afterSend_goesOn {rid : Byte} {p : List Byte} {ok noChannel : State → State}
    (hfits : 1 + p.length ≤ s.cfg.frameLen) (hp : s.phase ≠ .halted)
    (hok : ∀ v, v.phase ≠ .halted → GoesOn v (ok v))
    (hno : ∀ v, v.phase ≠ .halted → GoesOn v (noChannel v)) :
    GoesOn s (afterSend ok noChannel (s.sendFrame rid p)) := by
  obtain ⟨hlong, -⟩ | ⟨-, -, h⟩ | ⟨-, -, h⟩ := sendFrame_cases s rid p
  · omega
  · rw [h]
    exact hok _ hp
  · rw [h]
    exact hno _ hp

/-! ### HOST's operations -/

theorem hostSend_goesOn {n : Nat} (h : HostSend s n t) (hfits : 1 + n ≤ s.cfg.frameLen)
    (hp : s.phase ≠ .halted) : GoesOn s t := by
  obtain ⟨⟨rid, p, -, hkept⟩, hrun⟩ := h.of_fits hfits
  exact ⟨hrun hp, (congrArg State.fault hkept :), (congrArg (fun u => u.env.moves) hkept :)⟩

/-- What HOST sends fits: a raw payload by duty 2, a command by the length of the frame. -/
theorem sentLength_fits {c : Cfg} (hc : 7 ≤ c.frameLen) {i : Instr} (hi : payloadFits c i = true)
    {n : Nat} (h : sentLength i = some n) : 1 + n ≤ c.frameLen := by
  cases i with
  | send rid p => cases h; exact of_decide_eq_true hi
  | getTelemetry | cmdReadParam | setMode | cmdSetFanMode | rgboff | cmdRgbOff => cases h; omega
  | _ => cases h

theorem loopStartEffect_goesOn (hp : s.phase ≠ .halted) : GoesOn s (loopStartEffect s) := by
  unfold loopStartEffect
  split
  · exact ⟨nofun, rfl, rfl⟩
  · exact ⟨hp, rfl, rfl⟩

theorem effectOf_goesOn (hc : 7 ≤ s.cfg.frameLen) {i : Instr} (hi : payloadFits s.cfg i = true)
    (hp : s.phase ≠ .halted) : GoesOn s (effectOf i s) := by
  cases hn : sentLength i with
  | some n => exact hostSend_goesOn (effectOf_hostSend hn s) (sentLength_fits hc hi hn) hp
  | none =>
    cases i with
    | decode16 | encpct | temp2pct | aggPower | closeTransport => exact ⟨hp, rfl, rfl⟩
    | buildframe rid p =>
      rw [effectOf, Framing.buildframeEffect_of_fits (of_decide_eq_true hi)]
      exact ⟨hp, rfl, rfl⟩
    | openTransport =>
      rw [effectOf, TransportControl.openEffect_eq]
      exact ⟨hp, rfl, rfl⟩
    | loopStart => exact loopStartEffect_goesOn hp
    | readresp | loopStop => exact ⟨nofun, rfl, rfl⟩
    | _ => cases hn

/-! ### DEVICE, CTRL and TIMER -/

theorem rxArrive_goesOn (hp : s.phase ≠ .halted) (chunk : List Byte) :
    GoesOn s (s.rxArrive chunk) := by
  rw [Reception.rxArrive_eq]
  exact ⟨hp, rfl, rfl⟩

theorem ctrlTempSend_goesOn (hc : 7 ≤ s.cfg.frameLen) (hp : s.phase ≠ .halted) :
    GoesOn s (ctrlTempSend s) :=
  ctrlTempSend_eq (s := s) ▸ afterSend_goesOn (by rw [length_payloadReadParam]; omega) hp
    (fun _ _ => ⟨nofun, rfl, rfl⟩) (fun _ _ => ⟨nofun, rfl, rfl⟩)

theorem ctrlRpmSend_goesOn (hc : 7 ≤ s.cfg.frameLen) (hp : s.phase ≠ .halted) :
    GoesOn s (ctrlRpmSend s) :=
  ctrlRpmSend_eq (s := s) ▸ afterSend_goesOn (by rw [length_payloadReadParam]; omega) hp
    (fun _ _ => ⟨nofun, rfl, rfl⟩) (fun _ _ => ⟨nofun, rfl, rfl⟩)

theorem ctrlModeSend_goesOn (hc : 7 ≤ s.cfg.frameLen) (hp : s.phase ≠ .halted) :
    GoesOn s (ctrlModeSend s) := by
  cases hq : s.tCur with
  | undef =>
    rw [ctrlModeSend_of_undef hq]
    exact ⟨hp, rfl, rfl⟩
  | val q =>
    exact ctrlModeSend_of_val hq ▸ afterSend_goesOn (by rw [length_ctrlCmd]; omega) hp
      (fun _ _ => ⟨nofun, rfl, rfl⟩) (fun _ _ => ⟨nofun, rfl, rfl⟩)

theorem ctrlDecide_goesOn : GoesOn s (ctrlDecide s) := by
  unfold ctrlDecide
  split <;> exact ⟨nofun, rfl, rfl⟩

theorem ctrlStep_goesOn (hc : 7 ≤ s.cfg.frameLen) (hp : s.phase ≠ .halted) :
    GoesOn s s.ctrlStep := by
  unfold State.ctrlStep
  split
  · split
    · exact ctrlTempSend_goesOn hc hp
    · exact ctrlRpmSend_goesOn hc hp
    · exact ctrlDecide_goesOn
    · exact ctrlModeSend_goesOn hc hp
    all_goals exact ⟨hp, rfl, rfl⟩
  · exact ⟨hp, rfl, rfl⟩

theorem completePending_goesOn (hp : s.phase ≠ .halted) (bytes : List Byte) :
    GoesOn s (s.completePending bytes) := by
  cases hpend : s.hPend with
  | none =>
    simp only [State.completePending, hpend]
    exact ⟨hp, rfl, rfl⟩
  | some p =>
    rw [Completion.completePending_eq hpend]
    exact ⟨nofun, rfl, rfl⟩

theorem windowClose_goesOn (hp : s.phase ≠ .halted) : GoesOn s s.windowClose := by
  unfold State.windowClose
  split
  · exact completePending_goesOn (s := s.rxClose.emit _) hp _
  · exact ⟨nofun, rfl, rfl⟩
  · exact ⟨nofun, rfl, rfl⟩
  · exact ⟨nofun, rfl, rfl⟩
  all_goals exact ⟨hp, rfl, rfl⟩

theorem timerStep_goesOn (hp : s.phase ≠ .halted) : GoesOn s s.timerStep := by
  unfold State.timerStep
  split
  · exact windowClose_goesOn hp
  · exact ⟨nofun, rfl, rfl⟩
  · exact ⟨hp, rfl, rfl⟩

/-! ### Moves and steps -/

theorem refuse_goesOn (hp : s.phase ≠ .halted) : GoesOn s s.refuse := ⟨hp, rfl, rfl⟩

theorem exec_goesOn (hc : 7 ≤ s.cfg.frameLen) {i : Instr} (hi : payloadFits s.cfg i = true)
    (h : exec i s = .next t) : GoesOn s t := by
  obtain ⟨hp, ht⟩ := exec_next_iff.mp h
  split at ht <;> rw [ht]
  · exact effectOf_goesOn hc hi hp
  · exact refuse_goesOn hp

/-- A move whose payload, if HOST presents one, fits. -/
theorem runMove_goesOn (hc : 7 ≤ s.cfg.frameLen) (hp : s.phase ≠ .halted) {m : Move}
    (hm : m.instr?.all (payloadFits s.cfg) = true) (h : runMove m s = .next t) : GoesOn s t := by
  cases m with
  | offer o =>
    simp only [runMove, hostMove] at h
    split at h
    · rename_i i hdecode
      exact exec_goesOn hc (by simpa [Move.instr?, hdecode, Except.toOption] using hm) h
    · obtain ⟨-, ht⟩ := hostOp_next_iff.mp h
      exact ht ▸ refuse_goesOn hp
  | intr => exact exec_goesOn (i := .loopStop) hc rfl h
  | device chunk =>
    cases h
    exact rxArrive_goesOn hp chunk
  | timer =>
    obtain ⟨-, ht⟩ := blockMove_next_iff.mp h
    exact ht ▸ timerStep_goesOn hp
  | ctrl =>
    obtain ⟨-, ht⟩ := blockMove_next_iff.mp h
    exact ht ▸ ctrlStep_goesOn hc hp

theorem quietMove_goesOn (hc : 7 ≤ s.cfg.frameLen) (h : quietMove s = .next t) : GoesOn s t := by
  obtain ⟨hp, ht⟩ := blockMove_next_iff.mp h
  split at ht <;> rw [ht]
  · exact ctrlStep_goesOn hc hp
  · exact timerStep_goesOn hp

end

/-! ### The duties, R174 -/

section
variable {i j : Instr} {m : Move} {ms : List Move}

theorem followedBy_tail (h : followedBy i j (m :: ms) = true) : followedBy i j ms = true :=
  (Bool.and_eq_true_iff.mp h).2

/-- The duties hold of what is left of a schedule they hold of. -/
theorem hostDuties_tail {c : Cfg} {expectedId : Byte} (h : HostDuties c expectedId (m :: ms)) :
    HostDuties c expectedId ms where
  releases := followedBy_tail h.releases
  fits := fun m' hm' => h.fits m' (List.mem_cons_of_mem m hm')
  reportId := h.reportId
  interrupts := followedBy_tail h.interrupts

end

/-- Settles O58: of the duties the second keeps every raw payload within the frame, as the length of
the frame keeps every command; a step takes the first move off the schedule. -/
theorem dutifulHostNeverFaults : Obligations.DutifulHostNeverFaults := by
  intro s t expectedId hc hp hduties hstep
  rw [Transmission.step_cfg hstep]
  obtain ⟨-, ⟨-, hquiet⟩ | ⟨m, ms, hm, hrun⟩⟩ := step_next_cases hstep
  · obtain ⟨hphase, hfault, hmoves⟩ := quietMove_goesOn hc hquiet
    exact ⟨hphase, hfault, hmoves ▸ hduties⟩
  · rw [hm] at hduties
    have hfits := hduties.fits m (List.mem_cons_self ..)
    obtain ⟨hphase, hfault, hmoves⟩ := runMove_goesOn (s := s.withMoves ms) hc hp hfits hrun
    exact ⟨hphase, hfault, hmoves ▸ hostDuties_tail hduties⟩

end Sys2Proof.Machine.Duties

namespace Sys2Proof.Machine.Commands

open OpsLaws ExecLaws Transitions Transfer

/-! ### RESP_DECODE, R114 -/

section
variable {c : Cfg} {bytes : List Byte}

theorem respDecode_of_short (h : bytes.length < c.respMinLen) : respDecode c bytes = .undef :=
  if_neg (Nat.not_le.mpr h)

/-- The value of a long enough window is made of two of its bytes alone. -/
theorem respDecode_of_bytes {lo hi : Byte} (hlen : c.respMinLen ≤ bytes.length)
    (hlo : bytes[c.respLoOff]? = some lo) (hhi : bytes[c.respHiOff]? = some hi) :
    respDecode c bytes = .val (decode16 lo hi) := by
  rw [respDecode, if_pos hlen, hlo, hhi]

/-- A legal record keeps both offsets inside a long enough window (R7). -/
theorem exists_resp_bytes (hc : c.Legal) (hlen : c.respMinLen ≤ bytes.length) :
    ∃ lo hi : Byte, bytes[c.respLoOff]? = some lo ∧ bytes[c.respHiOff]? = some hi := by
  obtain ⟨-, -, -, -, -, hhi, hlo, -⟩ := hc
  exact ⟨_, _, List.getElem?_eq_getElem (hlo.trans_le hlen),
    List.getElem?_eq_getElem (hhi.trans_le hlen)⟩

end

/-! ### The frames of the three commands, R109 -/

section
variable (c : Cfg) (rid : Byte)

theorem frameOf_readParam (b : Byte) :
    frameOf c rid (payloadReadParam b) = rid :: 0x31#8 :: b :: zeros (c.frameLen - 3) := rfl

theorem frameOf_fanMode (param1 param2 : Byte) :
    frameOf c rid (payloadFanMode param1 param2) =
      rid :: 0x30#8 :: 0x41#8 :: param1 :: param2 :: zeros (c.frameLen - 5) := rfl

/-- The last three bytes of the constant payload are zeros, as the padding after it is. -/
theorem frameOf_rgbOff (h : 7 ≤ c.frameLen) :
    frameOf c rid payloadRgbOff =
      rid :: 0x30#8 :: 0x42#8 :: 0x19#8 :: zeros (c.frameLen - 4) := by
  obtain ⟨n, hn⟩ := Nat.exists_eq_add_of_le' h
  simp only [frameOf, hn]
  rfl

end

/-! ### The issue step of a command, R113, R116 and R118 -/

section
variable {s t u : State} {ok noChannel : State → State} {rid : Byte} {p : List Byte}

theorem fr_of_kept (h : kept t = kept u) : t.fr = u.fr := (congrArg State.fr h :)

theorem frRead_of_kept (h : kept t = kept u) (a : Nat) : t.frRead a = u.frRead a := by
  have hcfg : t.cfg = u.cfg := (congrArg State.cfg h :)
  rw [State.frRead, State.frRead, hcfg, fr_of_kept h]

/-- Whatever the channel answers, a send whose frame fits writes the frame, and the rest of the
operation does not touch FR. -/
theorem kept_afterSend (hok : Continues ok) (hno : Continues noChannel)
    (hfits : 1 + p.length ≤ s.cfg.frameLen) :
    kept (afterSend ok noChannel (s.sendFrame rid p)) =
      kept (s.writeFrame (frameOf s.cfg rid p)) := by
  cases hc : s.channel with
  | true =>
    rw [sendFrame_ok hfits hc]
    exact (hok _).1
  | false =>
    rw [sendFrame_noChannel hfits hc]
    exact (hno _).1

/-- The issue step of an admitted operation whose frame fits. -/
theorem exec_of_fits {i : Instr} {frame : List Byte} (hp : s.phase = .idle)
    (hadmits : admits i s = true)
    (heffect : effectOf i s = afterSend ok noChannel (s.sendFrame rid p))
    (hok : Continues ok) (hno : Continues noChannel) (hfits : 1 + p.length ≤ s.cfg.frameLen)
    (hframe : frameOf s.cfg rid p = frame) :
    ∃ t, exec i s = .next t ∧ (∀ a, a < s.cfg.frameLen → t.frRead a = frame[a]?) ∧
      (∀ a, s.cfg.frameLen ≤ a → t.fr.read a = s.fr.read a) ∧
      (s.channel = true → t = ok ((s.writeFrame frame).answered.emit (.tx frame))) ∧
      (s.channel = false → t = noChannel (s.writeFrame frame).answered) := by
  subst hframe
  have hkept := kept_afterSend (rid := rid) hok hno hfits
  refine ⟨_, exec_admitted (by simp [hp]) hadmits, ?_⟩
  rw [heffect]
  refine ⟨fun a ha => ?_, fun a ha => ?_, fun hc => ?_, fun hc => ?_⟩
  · rw [frRead_of_kept hkept, frRead_writeFrame hfits ha]
  · rw [fr_of_kept hkept, read_writeFrame_outside hfits ha]
  · rw [sendFrame_ok hfits hc]
    rfl
  · rw [sendFrame_noChannel hfits hc]
    rfl

end

/-- A read that fails records its value before it completes (R113). -/
theorem emit_done (s : State) (ev : Event) (op : Opcode) (code : Status) (r : Result) :
    (s.emit ev).done op code r = { s with hist := s.hist ++ [ev, .done op code r] } := by
  simp [State.done, State.emit]

theorem wellFormed_setMode {m : FanMode} {speed : Option Rat} :
    (Instr.setMode m speed).wellFormed = true ↔ (speed.isSome = true ↔ m = .manual) := by
  rw [Instr.wellFormed, beq_iff_eq, Bool.eq_iff_iff, decide_eq_true_eq]

/-! ### A wire command is a SEND, R110 to R112 (log 14) -/

section
variable (s : State)

theorem exec_cmdReadParam (b : Byte) :
    exec (.cmdReadParam b) s = exec (.send s.cfg.reportId (payloadReadParam b)) s := rfl

theorem exec_cmdSetFanMode (param1 param2 : Byte) :
    exec (.cmdSetFanMode param1 param2) s =
      exec (.send s.cfg.reportId (payloadFanMode param1 param2)) s := rfl

theorem exec_cmdRgbOff : exec .cmdRgbOff s = exec (.send s.cfg.reportId payloadRgbOff) s := rfl

end

/-! ### The obligations -/

/-- Settles O30: a legal record has both bytes inside a long enough window, and the value is made of
them alone. -/
theorem respDecodeReadsTwoBytes : Obligations.RespDecodeReadsTwoBytes := by
  intro c bytes hc
  refine ⟨respDecode_of_short, fun hlen => ?_, fun other hlen hlen' hsameLo hsameHi => ?_⟩
  · obtain ⟨lo, hi, hlo, hhi⟩ := exists_resp_bytes hc hlen
    exact ⟨lo, hi, hlo, hhi, respDecode_of_bytes hlen hlo hhi⟩
  · obtain ⟨lo, hi, hlo, hhi⟩ := exists_resp_bytes hc hlen
    rw [respDecode_of_bytes hlen hlo hhi,
      respDecode_of_bytes hlen' (hsameLo.trans hlo) (hsameHi.trans hhi)]

/-- Settles O31: GET_TELEMETRY is admitted, and its READ_PARAM frame fits. -/
theorem getTelemetryIssues : Obligations.GetTelemetryIssues := by
  intro s b hp ho hlen
  obtain ⟨t, hexec, hin, hout, hok, hno⟩ :=
    exec_of_fits (i := .getTelemetry b) hp (admitsTransport_iff.mpr ⟨hp, ho⟩)
      (getTelemetryEffect_eq b) (continues_await _ _ _) (continues_tel_done _ _ _ _ _) hlen
      (frameOf_readParam ..)
  exact ⟨t, hexec, hin, hout, fun hc => by rw [hok hc]; rfl,
    fun hc => by rw [hno hc, emit_done]; rfl⟩

/-- Settles O32: a SET_MODE whose speed goes with its mode is admitted, and its frame fits. -/
theorem setModeIssues : Obligations.SetModeIssues := by
  intro s m speed hp ho hlen hspeed
  obtain ⟨t, hexec, hin, hout, hok, hno⟩ :=
    exec_of_fits hp (Admission.admits_setMode.mpr ⟨wellFormed_setMode.mpr hspeed, hp, ho⟩)
      (commandEffect_eq ..) (continues_await _ _ _) (continues_done _ _ _) hlen (frameOf_fanMode ..)
  exact ⟨t, hexec, hin, hout, fun hc => by rw [hok hc]; rfl, fun hc => by rw [hno hc]; rfl⟩

/-- Settles O34: RGBOFF is admitted, and its constant frame fits. -/
theorem rgbOffIssues : Obligations.RgbOffIssues := by
  intro s hp ho hlen
  obtain ⟨t, hexec, hin, hout, hok, hno⟩ :=
    exec_of_fits (i := .rgboff) hp (admitsTransport_iff.mpr ⟨hp, ho⟩) (commandEffect_eq ..)
      (continues_await _ _ _) (continues_done _ _ _) hlen (frameOf_rgbOff _ _ hlen)
  exact ⟨t, hexec, hin, hout, fun hc => by rw [hok hc]; rfl, fun hc => by rw [hno hc]; rfl⟩

/-- Settles O35: each wire command is the SEND of a payload that fits, which O25 says completes. -/
theorem wireCommandsTransfer : Obligations.WireCommandsTransfer := by
  intro s b param1 param2 hp ho i body hi
  obtain ⟨p, hsend, hfits, hframe⟩ : ∃ p, exec i s = exec (.send s.cfg.reportId p) s ∧
      1 + p.length ≤ s.cfg.frameLen ∧ frameOf s.cfg s.cfg.reportId p = s.cfg.reportId :: body := by
    obtain ⟨rfl, hlen, rfl⟩ | ⟨rfl, hlen, rfl⟩ | ⟨rfl, hlen, rfl⟩ := hi
    · exact ⟨_, exec_cmdReadParam s b, hlen, frameOf_readParam ..⟩
    · exact ⟨_, exec_cmdSetFanMode s param1 param2, hlen, frameOf_fanMode ..⟩
    · exact ⟨_, exec_cmdRgbOff s, hlen, frameOf_rgbOff _ _ hlen⟩
  rw [hsend, ← hframe]
  exact sendCompletes s s.cfg.reportId p hp ho hfits

end Sys2Proof.Machine.Commands

namespace Sys2Proof.Machine.Interpolation

open Percent

/-! ### TEMP2PCT as a line between two clamps, R121 -/

/-- The line of TEMP2PCT through its two ends. -/
def line (c : Cfg) (t : Rat) : Rat :=
  c.minFan + (t - c.minTemp) * (c.maxFan - c.minFan) / (c.maxTemp - c.minTemp)

/-- The temperature brought within MIN_TEMP and MAX_TEMP. -/
def clamp (c : Cfg) (t : Rat) : Rat := max c.minTemp (min t c.maxTemp)

section
variable {c : Cfg}

theorem line_minTemp : line c c.minTemp = c.minFan := by simp [line]

theorem line_maxTemp (h : c.minTemp < c.maxTemp) : line c c.maxTemp = c.maxFan := by
  have hne : c.maxTemp - c.minTemp ≠ 0 := (sub_pos.mpr h).ne'
  rw [line, mul_div_cancel_left₀ _ hne, add_sub_cancel]

theorem line_mono (htemp : c.minTemp < c.maxTemp) (hfan : c.minFan ≤ c.maxFan) :
    Monotone (line c) := by
  intro t u h
  have hrun : 0 ≤ c.maxTemp - c.minTemp := (sub_pos.mpr htemp).le
  have hrise : 0 ≤ c.maxFan - c.minFan := sub_nonneg.mpr hfan
  unfold line
  gcongr

theorem clamp_mono (c : Cfg) : Monotone (clamp c) := fun _ _ h =>
  max_le_max le_rfl (min_le_min h le_rfl)

theorem clamp_of_le {t : Rat} (h : t ≤ c.minTemp) : clamp c t = c.minTemp :=
  max_eq_left ((min_le_left _ _).trans h)

theorem clamp_of_ge (htemp : c.minTemp < c.maxTemp) {t : Rat} (h : c.maxTemp ≤ t) :
    clamp c t = c.maxTemp := by
  rw [clamp, min_eq_right h, max_eq_right htemp.le]

theorem clamp_of_mem {t : Rat} (hlow : c.minTemp ≤ t) (hhigh : t ≤ c.maxTemp) : clamp c t = t := by
  rw [clamp, min_eq_left hhigh, max_eq_right hlow]

theorem temp2pct_eq_line_clamp (htemp : c.minTemp < c.maxTemp) (t : Rat) :
    temp2pct c t = line c (clamp c t) := by
  unfold temp2pct
  split_ifs with hlow hhigh
  · rw [clamp_of_le hlow.le, line_minTemp]
  · rw [clamp_of_ge htemp hhigh.le, line_maxTemp htemp]
  · rw [clamp_of_mem (not_lt.mp hlow) (not_lt.mp hhigh), line]

theorem temp2pct_of_le (htemp : c.minTemp < c.maxTemp) {t : Rat} (h : t ≤ c.minTemp) :
    temp2pct c t = c.minFan := by
  rw [temp2pct_eq_line_clamp htemp, clamp_of_le h, line_minTemp]

theorem temp2pct_of_ge (htemp : c.minTemp < c.maxTemp) {t : Rat} (h : c.maxTemp ≤ t) :
    temp2pct c t = c.maxFan := by
  rw [temp2pct_eq_line_clamp htemp, clamp_of_ge htemp h, line_maxTemp htemp]

theorem temp2pct_of_mem (htemp : c.minTemp < c.maxTemp) {t : Rat} (hlow : c.minTemp ≤ t)
    (hhigh : t ≤ c.maxTemp) : temp2pct c t = line c t := by
  rw [temp2pct_eq_line_clamp htemp, clamp_of_mem hlow hhigh]

theorem temp2pct_mono (htemp : c.minTemp < c.maxTemp) (hfan : c.minFan ≤ c.maxFan) :
    Monotone (temp2pct c) := fun t u h => by
  rw [temp2pct_eq_line_clamp htemp, temp2pct_eq_line_clamp htemp]
  exact line_mono htemp hfan (clamp_mono c h)

/-- A monotone function is between its values at two clamped ends. -/
theorem temp2pct_mem (htemp : c.minTemp < c.maxTemp) (hfan : c.minFan ≤ c.maxFan) (t : Rat) :
    c.minFan ≤ temp2pct c t ∧ temp2pct c t ≤ c.maxFan := by
  have hmono := temp2pct_mono htemp hfan
  constructor
  · calc c.minFan
      _ = temp2pct c (min t c.minTemp) := (temp2pct_of_le htemp (min_le_right _ _)).symm
      _ ≤ temp2pct c t := hmono (min_le_left _ _)
  · calc temp2pct c t
      _ ≤ temp2pct c (max t c.maxTemp) := hmono (le_max_left _ _)
      _ = c.maxFan := temp2pct_of_ge htemp (le_max_right _ _)

end

/-! ### The source's thresholds, R125 -/

theorem withDefaults_legal (rid : Byte) (d1 d2 : Duration) :
    (Cfg.withDefaults rid d1 d2).Legal := by
  norm_num [Cfg.Legal, Cfg.withDefaults]

/-- R125: the least percent of the default record. -/
theorem encpct_twenty : encpct 20 = 26 :=
  encpct_of_mem_breakpoints (by norm_num) (by norm_num) (by norm_num [breakpoint])
    (by norm_num [breakpoint])

/-- R125: the greatest percent of the default record. -/
theorem encpct_fifty : encpct 50 = 54 :=
  encpct_of_mem_breakpoints (by norm_num) (by norm_num) (by norm_num [breakpoint])
    (by norm_num [breakpoint])

/-! ### The obligations -/

/-- Settles O12: TEMP2PCT is a rising line taken at the clamped temperature. -/
theorem temp2pctClampsAndInterpolates : Obligations.Temp2pctClampsAndInterpolates := by
  rintro c ⟨-, htemp, -, hfan, -⟩
  exact ⟨fun t h => temp2pct_of_le htemp h.le, fun t h => temp2pct_of_ge htemp h.le,
    fun t => temp2pct_of_mem htemp, temp2pct_of_le htemp le_rfl, temp2pct_of_ge htemp le_rfl,
    temp2pct_mem htemp hfan, fun t u h => temp2pct_mono htemp hfan h⟩

/-- Settles O13: the percent is in 20..50 and ENCPCT is monotone, so its two ends bound the byte. -/
theorem activeParameterRange : Obligations.ActiveParameterRange := by
  intro rid d1 d2 t
  obtain ⟨-, htemp, -, hfan, -⟩ := withDefaults_legal rid d1 d2
  obtain ⟨hlow, hhigh⟩ := temp2pct_mem htemp hfan t
  refine ⟨?_, ?_, fun h => ?_, fun h => ?_⟩
  · exact encpct_twenty ▸ encpct_mono hlow
  · exact encpct_fifty ▸ encpct_mono hhigh
  · exact (congrArg encpct (temp2pct_of_le htemp h)).trans encpct_twenty
  · exact (congrArg encpct (temp2pct_of_ge htemp h)).trans encpct_fifty

/-- Settles O17: TEMP2PCT is a pure operation, and the percent it records is R121's two tests. -/
theorem temp2pctCompletes : Obligations.Temp2pctCompletes := fun _ _ hs =>
  Codec.exec_of_admitsPure hs rfl

end Sys2Proof.Machine.Interpolation

namespace Sys2Proof.Machine.Hysteresis

/-! ### CTRL_NEXT from each of the two states, R122 -/

section
variable (c : Cfg) (t : Rat)

theorem ctrlNext_passive : ctrlNext c false t = decide (c.minTemp ≤ t) := by
  by_cases h : c.minTemp ≤ t <;> simp [ctrlNext, h]

theorem ctrlNext_active : ctrlNext c true t = decide (c.minTemp - c.passiveDelta < t) := by
  by_cases h : t ≤ c.minTemp - c.passiveDelta
  · simp [ctrlNext, h]
  · simp [ctrlNext, h, lt_of_not_ge h]

end

/-! ### The obligation -/

/-- Settles O14: Passive looks at the upper threshold alone and Active at the lower one, which a
legal record puts below it. -/
theorem hysteresisProperties : Obligations.HysteresisProperties := by
  rintro c ⟨hdelta, -⟩
  have hband : c.minTemp - c.passiveDelta < c.minTemp := sub_lt_self _ hdelta
  refine ⟨?_, ?_, ?_, ?_, ?_, ?_, ?_⟩
  · rintro a t ⟨⟨rfl, -⟩, ⟨ha, -⟩⟩
    cases ha
  · intro a t hlow hhigh
    cases a with
    | false => rw [ctrlNext_passive, decide_eq_false hhigh.not_ge]
    | true => rw [ctrlNext_active, decide_eq_true hlow]
  · intro a t h
    cases a with
    | false => rw [ctrlNext_passive, decide_eq_true h]
    | true => rw [ctrlNext_active, decide_eq_true (hband.trans_le h)]
  · intro a t h
    cases a with
    | false => rw [ctrlNext_passive, decide_eq_false (h.trans_lt hband).not_ge]
    | true => rw [ctrlNext_active, decide_eq_false h.not_gt]
  · intro t u hup hdown
    rw [ctrlNext_passive, decide_eq_true_iff] at hup
    rw [ctrlNext_active, decide_eq_false_iff_not, not_lt] at hdown
    linarith
  · intro ts hts
    refine List.foldlRecOn ts (ctrlNext c) (motive := (· = true)) rfl ?_
    rintro _ rfl t ht
    rw [ctrlNext_active, decide_eq_true (hts t ht)]
  · intro ts hts
    refine List.foldlRecOn ts (ctrlNext c) (motive := (· = false)) rfl ?_
    rintro _ rfl t ht
    rw [ctrlNext_passive, decide_eq_false (hts t ht).not_ge]

end Sys2Proof.Machine.Hysteresis

namespace Sys2Proof.Machine.LoopControl

open OpsLaws ExecLaws Admission

/-! ### LOOP_START and LOOP_STOP, R134 and R135 -/

section
variable {s : State}

theorem loopStartEffect_of_found (h : s.found = true) :
    loopStartEffect s = { s.answered with
      owner := .loop, fanActive := false, tCur := .undef, rCur := .undef
      phase := .cRtSend }.done .loopStart .ok .none := if_pos h

theorem loopStartEffect_of_not_found (h : s.found = false) :
    loopStartEffect s = s.answered.done .loopStart .deviceNotFound .none :=
  if_neg (by simp [h])

theorem loopStopEffect_eq :
    loopStopEffect s = { s with
      rxOpen := false, rxBuf := if s.rxOpen then [] else s.rxBuf, tmr := none, hPend := none
      owner := .none, phase := .idle
      hist := s.hist ++ [.stopped, .done .loopStop .interruptedByUser .none] } := by
  simp [loopStopEffect, State.emit, State.done]

end

/-! ### The obligations -/

/-- Settles O38: LOOP_START is admitted, and its two answers are the two values of the draw. -/
theorem loopStartCompletes : Obligations.LoopStartCompletes := by
  intro s hp ho
  have hexec : exec .loopStart s = .next (loopStartEffect s) :=
    exec_admitted (by simp [hp]) (admitsTransport_iff.mpr ⟨hp, ho⟩)
  refine ⟨fun hfound => ?_, fun hfound => ?_⟩
  · rw [hexec, loopStartEffect_of_found hfound]
    rfl
  · rw [hexec, loopStartEffect_of_not_found hfound]
    rfl

/-- Settles O39: LOOP_STOP is admitted everywhere but in HALTED, and INTR is that instruction. -/
theorem loopStopReleases : Obligations.LoopStopReleases := fun _ =>
  ⟨fun hp => (exec_admitted (i := .loopStop) hp rfl).trans (congrArg _ loopStopEffect_eq),
    exec_halted, fun _ hlegal hmoves => step_of_move hlegal hmoves⟩

end Sys2Proof.Machine.LoopControl

namespace Sys2Proof.Machine.CyclePhases

open OpsLaws Transitions Transfer Commands Completion

/-! ### A CTRL or a TIMER move, R126 and R153 -/

section
variable {s : State} {ms : List Move}

theorem step_of_ctrl (hl : s.cfg.Legal) (hm : s.env.moves = .ctrl :: ms) (hp : s.phase ≠ .halted) :
    step s = .next (s.withMoves ms).ctrlStep :=
  (step_of_move hl hm).trans (blockMove_next_iff.mpr ⟨hp, rfl⟩)

theorem step_of_timer (hl : s.cfg.Legal) (hm : s.env.moves = .timer :: ms)
    (hp : s.phase ≠ .halted) : step s = .next (s.withMoves ms).timerStep :=
  (step_of_move hl hm).trans (blockMove_next_iff.mpr ⟨hp, rfl⟩)

/-- R126: the sequencer moves for the loop, and in four phases only. -/
theorem ctrlStep_of_disabled (h : s.owner ≠ .loop ∨ (s.phase ≠ .cRtSend ∧ s.phase ≠ .cRrSend ∧
    s.phase ≠ .cDecide ∧ s.phase ≠ .cModeSend)) : s.ctrlStep = s := by
  obtain ho | ⟨htemp, hrpm, hdecide, hmode⟩ := h
  · simp [State.ctrlStep, State.ctrlEnabled, ho]
  · cases hp : s.phase with
    | cRtSend => exact absurd hp htemp
    | cRrSend => exact absurd hp hrpm
    | cDecide => exact absurd hp hdecide
    | cModeSend => exact absurd hp hmode
    | idle | hWait | cRtWait | cRrWait | cModeWait | cSleep | halted =>
      simp [State.ctrlStep, State.ctrlEnabled, hp]

theorem timerStep_of_none (h : s.tmr = none) : s.timerStep = s := by
  simp only [State.timerStep, h]

/-- R131. -/
theorem timerStep_of_sleep {d : Duration} (h : s.tmr = some (.sleep, d)) :
    s.timerStep = { s with tmr := none, phase := .cRtSend } := by
  simp only [State.timerStep, h]

/-! ### The windows of the loop close, R128 and R130 -/

theorem windowClose_of_cRtWait (hp : s.phase = .cRtWait) :
    s.windowClose = { s with
      rxOpen := false, rxBuf := [], tmr := none
      hist := s.hist ++
        [.win s.rxKind s.rxBuf, .tel s.cfg.pidTemp (respDecode s.cfg s.rxBuf)]
      tCur := respDecode s.cfg s.rxBuf, phase := .cRrSend } := by
  simp [State.windowClose, hp, State.emit, State.rxClose]

theorem windowClose_of_cRrWait (hp : s.phase = .cRrWait) :
    s.windowClose = { s with
      rxOpen := false, rxBuf := [], tmr := none
      hist := s.hist ++
        [.win s.rxKind s.rxBuf, .tel s.cfg.pidRpm (respDecode s.cfg s.rxBuf)]
      rCur := respDecode s.cfg s.rxBuf, phase := .cDecide } := by
  simp [State.windowClose, hp, State.emit, State.rxClose]

theorem windowClose_of_cModeWait (hp : s.phase = .cModeWait) :
    s.windowClose = (s.rxClose.emit (.win s.rxKind s.rxBuf)).enterSleep := by
  simp only [State.windowClose, hp]

/-! ### C_DECIDE, R129 -/

theorem ctrlStep_of_cDecide (ho : s.owner = .loop) (hp : s.phase = .cDecide) :
    s.ctrlStep = ctrlDecide s := by
  simp [State.ctrlStep, State.ctrlEnabled, ho, hp]

theorem ctrlDecide_of_skip {reason : SkipReason} (h : sanity s.cfg s.tCur = .skip reason) :
    ctrlDecide s = (s.emit (.skip reason)).enterSleep := by
  simp only [ctrlDecide, h]

theorem ctrlDecide_of_pass {q : Rat} (h : sanity s.cfg s.tCur = .pass q) :
    ctrlDecide s =
      { s with fanActive := ctrlNext s.cfg s.fanActive q, phase := .cModeSend } := by
  simp only [ctrlDecide, h]

theorem sanity_of_lt {c : Cfg} {q : Rat} (h : q < c.sanityFloor) :
    sanity c (.val q) = .skip .belowFloor := if_pos h

theorem sanity_of_le {c : Cfg} {q : Rat} (h : c.sanityFloor ≤ q) :
    sanity c (.val q) = .pass q := if_neg h.not_gt

/-! ### The sends of the loop, R127 and R130 -/

/-- A failed read records its value and the error (R127). -/
theorem readFailed_eq (pid : Byte) :
    s.readFailed pid =
      { s with hist := s.hist ++ [.tel pid .undef, .cycleErr .transportUnavailable] } := by
  simp [State.readFailed, State.emit]

theorem frameOf_ctrlCmd (c : Cfg) (rid : Byte) (active : Bool) (q : Rat) :
    frameOf c rid (ctrlCmd c active q) = rid :: 0x30#8 :: 0x41#8 ::
      (if active then 0x04#8 else 0x03#8) ::
      (if active then encpctByte (temp2pct c q) else 0x00#8) :: zeros (c.frameLen - 5) := by
  cases active <;> rfl

/-- What the loop does once its send is answered: it writes neither FR nor the record. -/
def LeavesFrame (f : State → State) : Prop := ∀ v, (f v).fr = v.fr ∧ (f v).cfg = v.cfg

theorem LeavesFrame.frRead {f : State → State} (h : LeavesFrame f) (v : State) (a : Nat) :
    (f v).frRead a = v.frRead a := by
  rw [State.frRead, State.frRead, (h v).1, (h v).2]

/-- The state once the channel was asked: FR holds what was built, and the schedule has moved on. -/
def channelAsked (s : State) (ms : List Move) (fr : Memory) : State :=
  { s with
    fr := fr
    env := { moves := ms, answers := s.env.answers.tail, asked := s.env.asked + 1 } }

/-- The step of a phase that sends, when the frame fits. -/
theorem step_of_send {ok noChannel : State → State} {rid : Byte} {p frame : List Byte}
    (hl : s.cfg.Legal) (hm : s.env.moves = .ctrl :: ms) (hp : s.phase ≠ .halted)
    (heffect : (s.withMoves ms).ctrlStep =
      afterSend ok noChannel ((s.withMoves ms).sendFrame rid p))
    (hok : LeavesFrame ok) (hno : LeavesFrame noChannel) (hfits : 1 + p.length ≤ s.cfg.frameLen)
    (hframe : frameOf s.cfg rid p = frame) :
    ∃ t fr, step s = .next t ∧ (∀ a, a < s.cfg.frameLen → t.frRead a = frame[a]?) ∧
      (∀ a, s.cfg.frameLen ≤ a → t.fr.read a = s.fr.read a) ∧
      (s.channel = true → t = ok ((channelAsked s ms fr).emit (.tx frame))) ∧
      (s.channel = false → t = noChannel (channelAsked s ms fr)) := by
  subst hframe
  have hfits' : 1 + p.length ≤ (s.withMoves ms).cfg.frameLen := hfits
  refine ⟨_, s.fr.writeList 0 (frameOf s.cfg rid p), step_of_ctrl hl hm hp, ?_⟩
  rw [heffect]
  cases hc : s.channel with
  | true =>
    rw [sendFrame_ok hfits' hc]
    exact ⟨fun a ha => (hok.frRead _ a).trans (frRead_writeFrame hfits' ha),
      fun a ha => (congrArg (Memory.read · a) (hok _).1).trans (read_writeFrame_outside hfits' ha),
      fun _ => rfl, nofun⟩
  | false =>
    rw [sendFrame_noChannel hfits' hc]
    exact ⟨fun a ha => (hno.frRead _ a).trans (frRead_writeFrame hfits' ha),
      fun a ha => (congrArg (Memory.read · a) (hno _).1).trans (read_writeFrame_outside hfits' ha),
      nofun, fun _ => rfl⟩

end

/-! ### The obligations -/

/-- Settles O44: what the agent does in such a state is nothing, so only the schedule moves on. -/
theorem disabledAgentsHold : Obligations.DisabledAgentsHold := fun s ms hl hp =>
  ⟨fun hoff hm => (step_of_ctrl hl hm hp).trans
      (congrArg _ (ctrlStep_of_disabled (s := s.withMoves ms) hoff)),
    fun hnone hm => (step_of_timer hl hm hp).trans
      (congrArg _ (timerStep_of_none (s := s.withMoves ms) hnone))⟩

/-- Settles O40: each of the two phases is one send of a READ_PARAM frame. -/
theorem readSendPhases : Obligations.ReadSendPhases := by
  intro s ms hl ho hlen hm pid wait after hphase
  obtain ⟨hp, rfl, rfl, rfl⟩ | ⟨hp, rfl, rfl, rfl⟩ := hphase
  · obtain ⟨t, fr, hstep, hin, hout, hok, hno⟩ :=
      step_of_send hl hm (by simp [hp])
        ((ctrlStep_of_cRtSend (s := s.withMoves ms) ho hp).trans ctrlTempSend_eq)
        (fun _ => ⟨rfl, rfl⟩) (fun _ => ⟨rfl, rfl⟩) hlen
        (frameOf_readParam s.cfg s.cfg.reportId _)
    refine ⟨t, hstep, hin, hout, fun hc => by rw [hok hc]; rfl, fun hc => ?_⟩
    rw [hno hc, readFailed_eq, hp]
    rfl
  · obtain ⟨t, fr, hstep, hin, hout, hok, hno⟩ :=
      step_of_send hl hm (by simp [hp])
        ((ctrlStep_of_cRrSend (s := s.withMoves ms) ho hp).trans ctrlRpmSend_eq)
        (fun _ => ⟨rfl, rfl⟩) (fun _ => ⟨rfl, rfl⟩) hlen
        (frameOf_readParam s.cfg s.cfg.reportId _)
    refine ⟨t, hstep, hin, hout, fun hc => by rw [hok hc]; rfl, fun hc => ?_⟩
    rw [hno hc, readFailed_eq, hp]
    rfl

/-- Settles O41: CTRL has no step while a read window is open, and the close of the window writes
the register of its phase. -/
theorem readWaitPhases : Obligations.ReadWaitPhases := by
  intro s ms hl hwait
  have hhalted : s.phase ≠ .halted := by obtain hp | hp := hwait <;> simp [hp]
  refine ⟨(disabledAgentsHold s ms hl hhalted).1
    (by obtain hp | hp := hwait <;> simp [hp]), fun d ht hm => ?_⟩
  rw [step_of_timer hl hm hhalted, timerStep_of_win (s := s.withMoves ms) ht]
  obtain hp | hp := hwait
  · rw [windowClose_of_cRtWait (s := s.withMoves ms) hp, hp]
    rfl
  · rw [windowClose_of_cRrWait (s := s.withMoves ms) hp, hp]
    rfl

/-- Settles O42: the three answers of the sanity filter, the last with the two tests of
CTRL_NEXT. -/
theorem decideSkipsOrTransitions : Obligations.DecideSkipsOrTransitions := by
  intro s ms hl ho hp hm
  have hstep : step s = .next (ctrlDecide (s.withMoves ms)) :=
    (step_of_ctrl hl hm (by simp [hp])).trans
      (congrArg _ (ctrlStep_of_cDecide (s := s.withMoves ms) ho hp))
  have hsanity : sanity (s.withMoves ms).cfg (s.withMoves ms).tCur = sanity s.cfg s.tCur := rfl
  refine ⟨fun hundef => ?_, fun q hq => ⟨fun hbelow => ?_, fun hfloor => ?_⟩⟩
  · rw [hstep, ctrlDecide_of_skip (hsanity.trans (by rw [hundef]; rfl))]
    rfl
  · rw [hstep, ctrlDecide_of_skip (hsanity.trans (by rw [hq, sanity_of_lt hbelow]))]
    rfl
  · rw [hstep, ctrlDecide_of_pass (hsanity.trans (by rw [hq, sanity_of_le hfloor]))]
    rfl

/-- Settles O43: one send of the command of CTRL_CMD, the close of its window, and the expiry of the
sleep. -/
theorem modeSendAndSleep : Obligations.ModeSendAndSleep := by
  intro s ms hl
  refine ⟨fun q ho hp hq hlen hm => ?_, fun d hp ht hm => ?_, fun d hp ht hm => ?_⟩
  · obtain ⟨t, fr, hstep, hin, hout, hok, hno⟩ :=
      step_of_send hl hm (by simp [hp])
        ((ctrlStep_of_cModeSend (s := s.withMoves ms) ho hp).trans (ctrlModeSend_of_val hq))
        (fun _ => ⟨rfl, rfl⟩) (fun _ => ⟨rfl, rfl⟩) (by rwa [length_ctrlCmd])
        (frameOf_ctrlCmd s.cfg s.cfg.reportId s.fanActive q)
    exact ⟨t, hstep, hin, hout, fun hc => by rw [hok hc]; rfl, fun hc => by rw [hno hc]; rfl⟩
  · rw [step_of_timer hl hm (by simp [hp]), timerStep_of_win (s := s.withMoves ms) ht,
      windowClose_of_cModeWait (s := s.withMoves ms) hp]
    rfl
  · rw [step_of_timer hl hm (by simp [hp]), timerStep_of_sleep (s := s.withMoves ms) ht]
    rfl

end Sys2Proof.Machine.CyclePhases

namespace Sys2Proof.Machine.PureController

open OpsLaws Transitions Transfer Completion Reception CyclePhases

/-! ### Runs in a row -/

theorem run_add {M : Host.Core} {j k : Nat} {s t : M.State} (h : M.run j s = .next t) :
    M.run (j + k) s = M.run k t := by
  induction j generalizing s with
  | zero =>
    cases h
    rw [Nat.zero_add]
  | succ j ih =>
    rw [Nat.succ_add]
    cases hstep : M.step s with
    | next u =>
      rw [run_succ hstep] at h
      rw [run_succ hstep, ih h]
    | fault r | refused r => simp [Host.Core.run, hstep] at h

theorem run_one {M : Host.Core} {s t : M.State} (h : M.step s = .next t) : M.run 1 s = .next t :=
  run_succ h

/-! ### What a cycle reads of a state, R126 -/

/-- The loop is at phase p of a cycle: its flag is `active`, its history `es`, the next n answers of
the transport are successes, and the schedule is `ms`. -/
structure Cycling (c : Cfg) (p : Phase) (active : Bool) (es : List Event) (n : Nat)
    (ms : List Move) (s : State) : Prop where
  cfg : s.cfg = c
  phase : s.phase = p
  owner : s.owner = .loop
  fanActive : s.fanActive = active
  hist : s.hist = es
  answers : List.replicate n true <+: s.env.answers
  moves : s.env.moves = ms

/-- A window of the loop opens: what the phases that send go on to do. -/
def collecting (k : RxKind) (d : Duration) (w : Phase) (v : State) : State :=
  { v.rxOpenWindow k d with phase := w }

section
variable {c : Cfg} {p w : Phase} {active : Bool} {es : List Event} {n : Nat} {ms : List Move}
  {s u : State} {bs : List Byte}

/-- The next answer is a success, and so are the n after it. -/
theorem answers_of_replicate_succ (h : List.replicate (n + 1) true <+: s.env.answers) :
    s.channel = true ∧ List.replicate n true <+: s.env.answers.tail := by
  obtain ⟨rest, hrest⟩ := h
  rw [List.replicate_succ, List.cons_append] at hrest
  rw [State.channel, Env.answerOr, ← hrest]
  exact ⟨rfl, List.prefix_append _ _⟩

theorem Cycling.fewer (h : Cycling c p active es (n + 1) ms s) : Cycling c p active es n ms s :=
  { h with answers := (List.prefix_append _ [true]).trans (List.replicate_succ' ▸ h.answers) }

/-! ### A send and its window, R127, R128 and R130 -/

/-- An open window collects a chunk and closes. -/
theorem run_window {v : State} (k : RxKind) (d : Duration) (hl : v.cfg.Legal) (hw : w ≠ .halted)
    (hm : v.env.moves = .device bs :: .timer :: ms) :
    core.run 2 (collecting k d w v) = .next
      (State.windowClose { collecting k d w (v.withMoves ms) with
        rxBuf := capTo v.cfg.rxCap bs }) := by
  calc core.run 2 (collecting k d w v)
    _ = core.run 1 (((collecting k d w v).rxArrive bs).withMoves (.timer :: ms)) :=
      run_succ (step_of_device (s := collecting k d w v) hl hm)
    _ = .next ((((collecting k d w v).rxArrive bs).withMoves (.timer :: ms)).withMoves
          ms).timerStep :=
      run_one (step_of_timer hl rfl hw)
    _ = _ := rfl

theorem not_halted_of_opens {k : RxKind} (h : Opens p w k) : p ≠ .halted ∧ w ≠ .halted := by
  cases h <;> decide

/-- A send of the loop succeeds, and its window collects a chunk and closes. -/
theorem Cycling.exchange {k : RxKind} {d : Duration} {noChannel : State → State}
    {payload : List Byte} (hl : c.Legal) (hopens : Opens p w k)
    (h : Cycling c p active es (n + 1) (.ctrl :: .device bs :: .timer :: ms) s)
    (heffect : (s.withMoves (.device bs :: .timer :: ms)).ctrlStep =
      afterSend (collecting k d w) noChannel
        ((s.withMoves (.device bs :: .timer :: ms)).sendFrame s.cfg.reportId payload))
    (hno : LeavesFrame noChannel) (hfits : 1 + payload.length ≤ c.frameLen) :
    ∃ u : State, core.run 3 s = .next u.windowClose ∧
      Cycling c w active (es ++ [.tx (frameOf c c.reportId payload)]) n ms u ∧
      u.rxKind = k ∧ u.rxBuf = capTo c.rxCap bs ∧ u.tCur = s.tCur := by
  obtain ⟨rfl, rfl, howner, rfl, rfl, hanswers, hmoves⟩ := h
  obtain ⟨hchannel, hrest⟩ := answers_of_replicate_succ hanswers
  obtain ⟨t, fr, hsend, -, -, hok, -⟩ :=
    step_of_send hl hmoves (not_halted_of_opens hopens).1 heffect (fun _ => ⟨rfl, rfl⟩) hno hfits
      rfl
  rw [hok hchannel] at hsend
  have hwindow := run_window (v := (channelAsked s (.device bs :: .timer :: ms) fr).emit
    (.tx (frameOf s.cfg s.cfg.reportId payload))) k d hl (not_halted_of_opens hopens).2 rfl
  exact ⟨_, (run_succ hsend).trans hwindow,
    ⟨rfl, rfl, howner, rfl, rfl, hrest, rfl⟩, rfl, rfl, rfl⟩

/-- From C_RT_SEND to C_RR_SEND: the temperature is read. -/
theorem Cycling.tempRead (hl : c.Legal) (hfits : 3 ≤ c.frameLen)
    (h : Cycling c .cRtSend active es (n + 1) (.ctrl :: .device bs :: .timer :: ms) s) :
    ∃ t : State, core.run 3 s = .next t ∧ t.tCur = respDecode c (capTo c.rxCap bs) ∧
      Cycling c .cRrSend active (es ++
        [.tx (frameOf c c.reportId (payloadReadParam c.pidTemp)), .win .read (capTo c.rxCap bs),
          .tel c.pidTemp (respDecode c (capTo c.rxCap bs))]) n ms t := by
  obtain rfl := h.cfg
  obtain ⟨u, hrun, ⟨hcfg, hphase, howner, hactive, hhist, hanswers, hmoves⟩, hkind, hbuf, -⟩ :=
    h.exchange hl .temp
      ((ctrlStep_of_cRtSend (s := s.withMoves (.device bs :: .timer :: ms)) h.owner
        h.phase).trans ctrlTempSend_eq)
      (fun _ => ⟨rfl, rfl⟩) hfits
  rw [windowClose_of_cRtWait hphase, hkind, hbuf, hhist, hcfg] at hrun
  exact ⟨_, hrun, rfl, rfl, rfl, howner, hactive, by simp, hanswers, hmoves⟩

/-- From C_RR_SEND to C_DECIDE: the RPM is read, and the temperature stays. -/
theorem Cycling.rpmRead (hl : c.Legal) (hfits : 3 ≤ c.frameLen)
    (h : Cycling c .cRrSend active es (n + 1) (.ctrl :: .device bs :: .timer :: ms) s) :
    ∃ t : State, core.run 3 s = .next t ∧ t.tCur = s.tCur ∧
      Cycling c .cDecide active (es ++
        [.tx (frameOf c c.reportId (payloadReadParam c.pidRpm)), .win .read (capTo c.rxCap bs),
          .tel c.pidRpm (respDecode c (capTo c.rxCap bs))]) n ms t := by
  obtain rfl := h.cfg
  obtain ⟨u, hrun, ⟨hcfg, hphase, howner, hactive, hhist, hanswers, hmoves⟩, hkind, hbuf, htemp⟩ :=
    h.exchange hl .rpm
      ((ctrlStep_of_cRrSend (s := s.withMoves (.device bs :: .timer :: ms)) h.owner
        h.phase).trans ctrlRpmSend_eq)
      (fun _ => ⟨rfl, rfl⟩) hfits
  rw [windowClose_of_cRrWait hphase, hkind, hbuf, hhist, hcfg] at hrun
  exact ⟨_, hrun, htemp, rfl, rfl, howner, hactive, by simp, hanswers, hmoves⟩

/-- The sleep ends in the next cycle (R131). -/
theorem Cycling.wakes (hl : c.Legal) (h : Cycling c p active es n (.timer :: ms) s) :
    ∃ t : State, core.run 1 s.enterSleep = .next t ∧ Cycling c .cRtSend active es n ms t := by
  obtain ⟨rfl, -, howner, hactive, hhist, hanswers, hmoves⟩ := h
  have hstep : step s.enterSleep = .next (s.enterSleep.withMoves ms).timerStep :=
    step_of_timer hl hmoves nofun
  rw [timerStep_of_sleep rfl] at hstep
  exact ⟨_, run_one hstep, rfl, rfl, howner, hactive, hhist, hanswers, rfl⟩

/-- From C_MODE_SEND through the sleep: the mode is sent, and its window's bytes are discarded. -/
theorem Cycling.modeSent (hl : c.Legal) (hfits : 5 ≤ c.frameLen) {q : Rat}
    (h : Cycling c .cModeSend active es (n + 1) (.ctrl :: .device bs :: .timer :: .timer :: ms) s)
    (hq : s.tCur = .val q) :
    ∃ t : State, core.run 4 s = .next t ∧
      Cycling c .cRtSend active (es ++
        [.tx (frameOf c c.reportId (ctrlCmd c active q)), .win .cmd (capTo c.rxCap bs)])
        n ms t := by
  obtain rfl := h.cfg
  obtain rfl := h.fanActive
  obtain ⟨u, hrun, ⟨hcfg, hphase, howner, hactive, hhist, hanswers, hmoves⟩, hkind, hbuf, -⟩ :=
    h.exchange hl .mode
      ((ctrlStep_of_cModeSend (s := s.withMoves (.device bs :: .timer :: .timer :: ms)) h.owner
        h.phase).trans (ctrlModeSend_of_val hq))
      (fun _ => ⟨rfl, rfl⟩) (by rwa [length_ctrlCmd])
  rw [windowClose_of_cModeWait hphase, hkind, hbuf] at hrun
  have hclosed : Cycling s.cfg .cModeWait s.fanActive (es ++
      [.tx (frameOf s.cfg s.cfg.reportId (ctrlCmd s.cfg s.fanActive q)),
        .win .cmd (capTo s.cfg.rxCap bs)]) n (.timer :: ms)
      (u.rxClose.emit (.win .cmd (capTo s.cfg.rxCap bs))) :=
    ⟨hcfg, hphase, howner, hactive, by simp [hhist], hanswers, hmoves⟩
  obtain ⟨t, hwake, ht⟩ := hclosed.wakes hl
  exact ⟨t, (run_add hrun).trans hwake, ht⟩

end

/-! ### One cycle against the pure controller, R138 -/

/-- The moves of a cycle between C_DECIDE and the sleep. -/
def modeMoves (c : Cfg) (x : CycleInput) : List Move :=
  match sanity c (x.temperature c) with
  | .skip _ => []
  | .pass _ => [.ctrl, .device x.mode, .timer]

/-- The events of a cycle after its two reads. -/
def decideEvents (c : Cfg) (active : Bool) (x : CycleInput) : List Event :=
  match sanity c (x.temperature c) with
  | .skip reason => [.skip reason]
  | .pass t =>
    [.tx (frameOf c c.reportId (ctrlCmd c (ctrlNext c active t) t)),
     .win .cmd (capTo c.rxCap x.mode)]

theorem cycleMoves_eq (c : Cfg) (x : CycleInput) (ms : List Move) :
    cycleMoves c x ++ ms =
      .ctrl :: .device x.temp :: .timer :: .ctrl :: .device x.rpm :: .timer :: .ctrl ::
        (modeMoves c x ++ .timer :: ms) :=
  List.append_assoc _ [.timer] ms

theorem length_cycleMoves (c : Cfg) (x : CycleInput) :
    (cycleMoves c x).length = 3 + (3 + ((modeMoves c x).length + 2)) := by
  rw [← List.append_nil (cycleMoves c x), cycleMoves_eq]
  simp only [List.length_cons, List.length_append, List.length_nil]
  omega

theorem cycleEvents_eq (c : Cfg) (active : Bool) (x : CycleInput) :
    cycleEvents c active x =
      [.tx (frameOf c c.reportId (payloadReadParam c.pidTemp)), .win .read (capTo c.rxCap x.temp),
        .tel c.pidTemp (respDecode c (capTo c.rxCap x.temp))] ++
      ([.tx (frameOf c c.reportId (payloadReadParam c.pidRpm)), .win .read (capTo c.rxCap x.rpm),
        .tel c.pidRpm (respDecode c (capTo c.rxCap x.rpm))] ++ decideEvents c active x) := rfl

section
variable {c : Cfg} {active : Bool} {es : List Event} {n : Nat} {ms : List Move} {s : State}
  {x : CycleInput}

/-- From C_DECIDE to the start of the next cycle: the filter skips to the sleep, or the transition
rule is applied and the mode is sent. -/
theorem Cycling.decided (hl : c.Legal) (hfits : 5 ≤ c.frameLen) (ht : s.tCur = x.temperature c)
    (h : Cycling c .cDecide active es (n + 1) (.ctrl :: (modeMoves c x ++ .timer :: ms)) s) :
    ∃ t : State, core.run ((modeMoves c x).length + 2) s = .next t ∧
      Cycling c .cRtSend (nextActive c active x) (es ++ decideEvents c active x) n ms t := by
  have hfewer := h.fewer
  obtain ⟨rfl, hphase, howner, rfl, rfl, hanswers, hmoves⟩ := h
  have hstep : step s = .next (ctrlDecide (s.withMoves (modeMoves s.cfg x ++ .timer :: ms))) :=
    (step_of_ctrl hl hmoves (by simp [hphase])).trans
      (congrArg _ (ctrlStep_of_cDecide (s := s.withMoves _) howner hphase))
  have hsanity : sanity (s.withMoves (modeMoves s.cfg x ++ .timer :: ms)).cfg
      (s.withMoves (modeMoves s.cfg x ++ .timer :: ms)).tCur =
      sanity s.cfg (x.temperature s.cfg) := congrArg _ ht
  cases hs : sanity s.cfg (x.temperature s.cfg) with
  | skip reason =>
    rw [ctrlDecide_of_skip (hsanity.trans hs)] at hstep
    simp only [modeMoves, decideEvents, nextActive, hs] at hstep ⊢
    have hskipped : Cycling s.cfg .cDecide s.fanActive (s.hist ++ [.skip reason]) n (.timer :: ms)
        ((s.withMoves (.timer :: ms)).emit (.skip reason)) :=
      ⟨rfl, hphase, howner, rfl, rfl, hfewer.answers, rfl⟩
    obtain ⟨t, hwake, ht⟩ := hskipped.wakes hl
    exact ⟨t, (run_succ hstep).trans hwake, ht⟩
  | pass q =>
    rw [ctrlDecide_of_pass (hsanity.trans hs)] at hstep
    simp only [modeMoves, decideEvents, nextActive, hs] at hstep ⊢
    have hpassed : Cycling s.cfg .cModeSend (ctrlNext s.cfg s.fanActive q) s.hist (n + 1)
        (.ctrl :: .device x.mode :: .timer :: .timer :: ms)
        { s.withMoves (.ctrl :: .device x.mode :: .timer :: .timer :: ms) with
          fanActive := ctrlNext s.cfg s.fanActive q, phase := .cModeSend } :=
      ⟨rfl, rfl, howner, rfl, rfl, hanswers, rfl⟩
    obtain ⟨t, hsend, ht⟩ := hpassed.modeSent hl hfits (ht.trans (sanity_pass hs).1)
    exact ⟨t, (run_succ hstep).trans hsend, ht⟩

/-- One cycle is one turn of the pure controller. -/
theorem Cycling.cycle (hl : c.Legal) (hfits : 5 ≤ c.frameLen)
    (h : Cycling c .cRtSend active es (n + 3) (cycleMoves c x ++ ms) s) :
    ∃ t : State, core.run (cycleMoves c x).length s = .next t ∧
      Cycling c .cRtSend (nextActive c active x) (es ++ cycleEvents c active x) n ms t := by
  have hread : 3 ≤ c.frameLen := by omega
  rw [cycleMoves_eq] at h
  obtain ⟨t₁, hrun₁, htemp, h₁⟩ := h.tempRead hl hread
  obtain ⟨t₂, hrun₂, hkept, h₂⟩ := h₁.rpmRead hl hread
  obtain ⟨t, hrun, ht⟩ := h₂.decided hl hfits (hkept.trans htemp)
  refine ⟨t, ?_, ?_⟩
  · rw [length_cycleMoves, run_add hrun₁, run_add hrun₂, hrun]
  · rwa [List.append_assoc, List.append_assoc, ← cycleEvents_eq] at ht

end

/-- Over any run of cycles the loop follows the pure controller. -/
theorem Cycling.cycles {c : Cfg} (hl : c.Legal) (hfits : 5 ≤ c.frameLen) (xs : List CycleInput)
    {active : Bool} {es : List Event} {ms : List Move} {s : State}
    (h : Cycling c .cRtSend active es (3 * xs.length) (loopMoves c xs ++ ms) s) :
    ∃ t : State, core.run (loopMoves c xs).length s = .next t ∧
      Cycling c .cRtSend (loopActive c active xs) (es ++ loopEvents c active xs) 0 ms t := by
  induction xs generalizing active es s with
  | nil => exact ⟨s, rfl, by rwa [loopEvents, List.append_nil]⟩
  | cons x xs ih =>
    rw [loopMoves, List.append_assoc] at h
    obtain ⟨t₁, hrun₁, h₁⟩ := h.cycle hl hfits
    obtain ⟨t, hrun, ht⟩ := ih h₁
    refine ⟨t, ?_, ?_⟩
    · rw [loopMoves, List.length_append, run_add hrun₁, hrun]
    · rwa [List.append_assoc] at ht

/-- Settles O45: by induction on the cycles, each of which is one turn of the pure controller. -/
theorem loopFollowsPureController : Obligations.LoopFollowsPureController := by
  intro xs s ms hl hfits hp ho hm ha
  obtain ⟨t, hrun, h⟩ := Cycling.cycles hl hfits xs
    ⟨rfl, hp, ho, rfl, rfl, ha ▸ List.prefix_rfl, hm⟩
  exact ⟨t, hrun, h.phase, h.owner, h.cfg, h.moves, h.fanActive, h.hist⟩

end Sys2Proof.Machine.PureController

namespace Sys2Proof.Machine.Resetting

open ExecLaws

/-! ### Reset, R163 -/

/-- R147: only DEVICE still moves, and a chunk leaves the phase as it was. -/
theorem step_keeps_halted {s t : State} (hhalted : s.phase = .halted) (hstep : step s = .next t) :
    t.phase = .halted := by
  obtain ⟨-, ms, hform⟩ := step_form hstep
  cases hform with
  | arrived chunk => rwa [Reception.rxArrive_eq]
  | refused hrun | executed _ hrun _ | expired hrun | sequenced hrun =>
    exact absurd hhalted hrun

/-- Settles O50: the values stand in reset's own definition, and a step from HALTED stays there. -/
theorem resetValues : Obligations.ResetValues :=
  ⟨fun _ => ⟨rfl, rfl, rfl, rfl, rfl, rfl, rfl, rfl, rfl, rfl, rfl, rfl, rfl, rfl⟩, rfl,
    fun _ _ => step_keeps_halted⟩

end Sys2Proof.Machine.Resetting
